-- ==== Sys2Proof/Word.lean ====
section
/-! DEFINITION. The value types of the line coder and their plainest operations (00_scope.md R7; 10_state.md R28). -/

namespace Sys2Proof

/-- A 4-bit symbol (R11, "Nibble"). -/
abbrev Nibble := BitVec 4

/-- R6 `MSG_BITS`: the width of a message and of the receive shift register. -/
@[simp] abbrev Config.msgBits : Nat := 64

/-- A message or the value of the receive shift register (R11, R51). -/
abbrev Message := BitVec Config.msgBits

/-- A command word: `word[7:0] = CMD`, `word[71:8] = ARG` (R88). -/
abbrev CmdWord := BitVec 72

/-- A line level (R7). -/
inductive Level where
  | low
  | high
  deriving DecidableEq, Repr, Inhabited

/-- R7: `NOT` of a line level. -/
def Level.flip : Level → Level
  | .low => .high
  | .high => .low

/-- R28: the operation that runs. -/
inductive CurOp where
  | idle
  | tx
  | rx
  deriving DecidableEq, Repr, Inhabited

end Sys2Proof
end

