-- ==== Sys2Proof/Syntax.lean ====
section
/-! DEFINITION. The commands of the block, one constructor for each row of spec/opcode_table.json (30_encoding.md R81, R82). -/

namespace Sys2Proof

/-- A command with its operands. Each operand is the field of `ARG` that R81 names, at its width. -/
inductive Instr where
  /-- SEND: `m = ARG[63:0]` (R120). -/
  | send (m : BitVec 64)
  /-- RECEIVE: no operand (R140). -/
  | receive
  /-- SEND_PLAYING_TRACK: `track = ARG[7:0]`, `secs = ARG[23:8]` (R172). -/
  | sendPlayingTrack (track : BitVec 8) (secs : BitVec 16)
  /-- SEND_CHANGED_CD: `cd = ARG[7:0]`, `track = ARG[15:8]` (R173). -/
  | sendChangedCd (cd : BitVec 8) (track : BitVec 8)
  /-- SEND_CD_STATUS: `cd = ARG[7:0]` (R174). -/
  | sendCdStatus (cd : BitVec 8)
  /-- CHECK_PARITY: `x = ARG[63:0]` (R151). -/
  | checkParity (x : BitVec 64)
  deriving DecidableEq, Repr

end Sys2Proof
end

