-- ==== Sys2Proof/Decode.lean ====
section
/-! DEFINITION. The command decoder and the encoder (30_encoding.md R80 to R83, R86, R88). -/

namespace Sys2Proof

/-- Why a command word is reserved (R83). Either way the block raises ILLEGAL_CMD (R202). -/
inductive DecodeError where
  /-- A nonzero bit in `CMD[7:3]`. -/
  | reservedBits
  /-- `OP` is 0 or 7. -/
  | reservedOpcode
  deriving DecidableEq, Repr

/-- R88: `CMD = word[7:0]`. -/
def cmdOf (w : CmdWord) : BitVec 8 := w.extractLsb' 0 8

/-- R88: `ARG = word[71:8]`. -/
def argOf (w : CmdWord) : BitVec 64 := w.extractLsb' 8 64

/-- R88: the word of a `CMD` and an `ARG`. -/
def wordOf (cmd : BitVec 8) (arg : BitVec 64) : CmdWord := arg ++ cmd

/-- R80 to R83: the command of a word, or why it is reserved. Bits of `ARG` that R81 does not name are ignored. -/
def decode (w : CmdWord) : Except DecodeError Instr :=
  let cmd := cmdOf w
  let arg := argOf w
  if cmd.extractLsb' 3 5 ≠ 0#5 then .error .reservedBits
  else
    match (cmd.extractLsb' 0 3).toNat with
    | 1 => .ok (.send arg)
    | 2 => .ok .receive
    | 3 => .ok (.sendPlayingTrack (arg.extractLsb' 0 8) (arg.extractLsb' 8 16))
    | 4 => .ok (.sendChangedCd (arg.extractLsb' 0 8) (arg.extractLsb' 8 8))
    | 5 => .ok (.sendCdStatus (arg.extractLsb' 0 8))
    | 6 => .ok (.checkParity arg)
    | _ => .error .reservedOpcode

/-- R82: the command byte. -/
def encodeCmd : Instr → BitVec 8
  | .send _ => 0x01#8
  | .receive => 0x02#8
  | .sendPlayingTrack _ _ => 0x03#8
  | .sendChangedCd _ _ => 0x04#8
  | .sendCdStatus _ => 0x05#8
  | .checkParity _ => 0x06#8

/-- R86: the operand word; the bits that R81 does not name are 0. -/
def encodeArg : Instr → BitVec 64
  | .send m => m
  | .receive => 0#64
  | .sendPlayingTrack track secs => (secs ++ track).setWidth 64
  | .sendChangedCd cd track => (track ++ cd).setWidth 64
  | .sendCdStatus cd => cd.setWidth 64
  | .checkParity x => x

/-- R86, R88: the 72-bit word of a command. -/
def encode (i : Instr) : CmdWord := wordOf (encodeCmd i) (encodeArg i)

/-- The word whose low `nbits` bits are those of `w` and whose other bits are 0. -/
def tableWord (nbits w : Nat) : CmdWord := BitVec.ofNat 72 (w % 2 ^ nbits)

/-- What the decoder reads from a row of spec/opcode_table.json (bit 0 is `CMD[0]`; the table gives `ARG` no bits). -/
def decodeTableWord (nbits w : Nat) : Option Instr :=
  match decode (tableWord nbits w) with
  | .ok i => some i
  | .error _ => none

end Sys2Proof
end

