-- ==== Sys2Proof/Config.lean ====
section
/-! DEFINITION. The parameters of 00_scope.md R6, and the free values: constants without a body for what the spec leaves open. -/

namespace Sys2Proof

/-- R6, R146: how a high level that begins in the dead zone is treated. -/
inductive DeadzoneMode where
  | level
  | edge
  deriving DecidableEq, Repr, Inhabited

/-- The timing constants of R6 in ticks, parameters with the source's values as the default (I9; log 16). -/
structure Timing where
  /-- `T0_HIGH`: ticks a ZERO-pulse is high. -/
  t0High : Nat
  /-- `T0_LOW`: ticks a ZERO-pulse is low. -/
  t0Low : Nat
  /-- `T1_HIGH`: ticks a ONE-pulse is high. -/
  t1High : Nat
  /-- `T1_LOW`: ticks a ONE-pulse is low. -/
  t1Low : Nat
  /-- `BIT_PERIOD`. -/
  bitPeriod : Nat
  /-- `RX_T0_MIN`: the smallest measured time that is a bit. -/
  rxT0Min : Nat
  /-- `RX_T0_MAX`: the largest measured time that is a 0. -/
  rxT0Max : Nat
  deriving DecidableEq, Repr

/-- The implementation parameters of R6 (log 4). `State.params` holds them, and no step changes them (R223). -/
structure Params where
  /-- The timing constants. -/
  timing : Timing
  /-- `RX_WINDOW_US` (W): the length of the receive window in ticks. -/
  rxWindow : Nat
  /-- `CLK_BITS`: the width of `NOW`; `none` is unbounded. -/
  clkBits : Option Nat
  /-- `RX_DEADZONE_MODE`. -/
  deadzone : DeadzoneMode
  /-- `TPL_PLAY`. -/
  tplPlay : Message
  /-- `TPL_CHANGED`. -/
  tplChanged : Message
  /-- `TPL_STATUS`. -/
  tplStatus : Message
  /-- `OFF_PLAY_TRK_ONES`. -/
  offPlayTrkOnes : Fin 16
  /-- `OFF_PLAY_TRK_TENS`. -/
  offPlayTrkTens : Fin 16
  /-- `OFF_PLAY_SEC_ONES`. -/
  offPlaySecOnes : Fin 16
  /-- `OFF_PLAY_SEC_TENS`. -/
  offPlaySecTens : Fin 16
  /-- `OFF_PLAY_MIN_ONES`. -/
  offPlayMinOnes : Fin 16
  /-- `OFF_PLAY_MIN_TENS`. -/
  offPlayMinTens : Fin 16
  /-- `OFF_CHG_CD`. -/
  offChgCd : Fin 16
  /-- `OFF_CHG_TRK_ONES`. -/
  offChgTrkOnes : Fin 16
  /-- `OFF_CHG_TRK_TENS`. -/
  offChgTrkTens : Fin 16
  /-- `OFF_STAT_CD`. -/
  offStatCd : Fin 16
  deriving DecidableEq, Repr

namespace Config

/-- R6 `NIB_POSITIONS`: the positions 0 to 16 that the transmitter and the parity check scan, one past the last nibble. -/
@[simp] def nibPositions : Nat := msgBits / 4 + 1

/-- The source's timing (R6). -/
def timing : Timing :=
  { t0High := 600, t0Low := 2400, t1High := 1800, t1Low := 1200, bitPeriod := 3000, rxT0Min := 600, rxT0Max := 1400 }

/-- R6 `RX_WINDOW_US`: its default. -/
@[simp] def rxWindowDefault : Nat := 4000

/-- OPEN (D20): `TPL_PLAY`. -/
opaque tplPlay : Message
/-- OPEN (D20): `TPL_CHANGED`. -/
opaque tplChanged : Message
/-- OPEN (D20): `TPL_STATUS`. -/
opaque tplStatus : Message
/-- OPEN (D21): `OFF_PLAY_TRK_ONES`. -/
opaque offPlayTrkOnes : Fin 16
/-- OPEN (D21): `OFF_PLAY_TRK_TENS`. -/
opaque offPlayTrkTens : Fin 16
/-- OPEN (D21): `OFF_PLAY_SEC_ONES`. -/
opaque offPlaySecOnes : Fin 16
/-- OPEN (D21): `OFF_PLAY_SEC_TENS`. -/
opaque offPlaySecTens : Fin 16
/-- OPEN (D21): `OFF_PLAY_MIN_ONES`. -/
opaque offPlayMinOnes : Fin 16
/-- OPEN (D21): `OFF_PLAY_MIN_TENS`. -/
opaque offPlayMinTens : Fin 16
/-- OPEN (D21): `OFF_CHG_CD`. -/
opaque offChgCd : Fin 16
/-- OPEN (D21): `OFF_CHG_TRK_ONES`. -/
opaque offChgTrkOnes : Fin 16
/-- OPEN (D21): `OFF_CHG_TRK_TENS`. -/
opaque offChgTrkTens : Fin 16
/-- OPEN (D21): `OFF_STAT_CD`. -/
opaque offStatCd : Fin 16

/-- The parameters of the machine as built: the R6 values, and the OPEN ones without a value. -/
def params : Params :=
  { timing := timing, rxWindow := rxWindowDefault, clkBits := none, deadzone := .level
    tplPlay := tplPlay, tplChanged := tplChanged, tplStatus := tplStatus
    offPlayTrkOnes := offPlayTrkOnes, offPlayTrkTens := offPlayTrkTens
    offPlaySecOnes := offPlaySecOnes, offPlaySecTens := offPlaySecTens
    offPlayMinOnes := offPlayMinOnes, offPlayMinTens := offPlayMinTens
    offChgCd := offChgCd, offChgTrkOnes := offChgTrkOnes, offChgTrkTens := offChgTrkTens
    offStatCd := offStatCd }

/-! Free values. Each is applied to `State.draws`, which is another number in every tick. Two instances of the block (R211)
share these constants: where their `draws` are equal, they draw equal values (DESIGN CHOICE, log 23). -/

/-- OPEN (D15, I4; log 5): `OUT_RESET_LEVEL`, drawn at a reset. -/
opaque outResetLevel : Nat → Level
/-- R22, I12 (log 2): the level of `in_line` in a tick for which the environment's script says nothing. -/
opaque envLine : Nat → Level
/-- Log 12: a bit of `tx_bits` past its last one, which no run reads. -/
opaque pastTxBits : Nat → Bool

/-! R203, I1 (log 9): the values that are unspecified after CMD_WHILE_BUSY until the next reset. -/

/-- `out_line`, unspecified. -/
opaque unspecOutLine : Nat → Level
/-- `BUSY`, unspecified. -/
opaque unspecBusy : Nat → Bool
/-- `cur_op`, unspecified. -/
opaque unspecCurOp : Nat → CurOp
/-- `RESULT_OK`, unspecified. -/
opaque unspecResultOk : Nat → Bool
/-- `RXDATA`, unspecified. -/
opaque unspecRxData : Nat → Message
/-- `tx_bits`, unspecified. -/
opaque unspecTxBits : Nat → List Bool
/-- `tx_len`, unspecified. -/
opaque unspecTxLen : Nat → BitVec 7
/-- `tx_k`, unspecified. -/
opaque unspecTxK : Nat → BitVec 7
/-- `tx_phi`, unspecified. -/
opaque unspecTxPhi : Nat → BitVec 12
/-- `rx_sr`, unspecified. -/
opaque unspecRxSr : Nat → Message
/-- `rx_cnt`, unspecified. -/
opaque unspecRxCnt : Nat → Nat
/-- `rx_po`, unspecified. -/
opaque unspecRxPo : Nat → Bool
/-- `rx_tstart`, unspecified. -/
opaque unspecRxTstart : Nat → Nat
/-- `rx_tlast`, unspecified. -/
opaque unspecRxTlast : Nat → Nat
/-- `rx_seen`, unspecified. -/
opaque unspecRxSeen : Nat → Bool

end Config
end Sys2Proof
end

