-- ==== Sys2Proof/Machine/State.lean ====
section
/-! DEFINITION. The state of the line coder and its reset values (10_state.md). -/

namespace Sys2Proof.Machine

/-- The transmit registers (R32). -/
structure TxRegs where
  /-- `tx_bits`: the bits of the frame in transmission order. -/
  bits : List Bool
  /-- `tx_len`: how many there are. -/
  len : BitVec 7
  /-- `tx_k`: the index of the bit being sent. -/
  k : BitVec 7
  /-- `tx_phi`: ticks elapsed in the current bit period. -/
  phi : BitVec 12
  deriving DecidableEq, Repr

/-- The receive registers (R33). -/
structure RxRegs where
  /-- `rx_sr`: the value being assembled. -/
  sr : Message
  /-- `rx_cnt`: the bit counter. -/
  cnt : Nat
  /-- `rx_po`: the pulse-observed flag. -/
  po : Bool
  /-- `rx_tstart`: the window start. -/
  tstart : Nat
  /-- `rx_tlast`: the last low-transition timestamp, from which a high level's time is measured. -/
  tlast : Nat
  /-- `rx_seen`: a dead-zone high level has been seen (EDGE mode). -/
  seen : Bool
  deriving DecidableEq, Repr

/-- What the host drives on the block's input ports in one tick (R20). -/
structure HostPins where
  rst : Bool
  cmdValid : Bool
  cmd : BitVec 8
  arg : BitVec 64
  deriving DecidableEq, Repr

/-- A host action (R87, R233; log 1). -/
inductive HostAct where
  /-- Drive these pins for one tick. -/
  | pins (p : HostPins)
  /-- `WAITIDLE`. -/
  | waitIdle
  /-- `DELAY n`. -/
  | delay (n : Nat)
  deriving DecidableEq, Repr

/-- The output ports the host reads (R20, R38). -/
structure HostView where
  busy : Bool
  resultOk : Bool
  rxData : Message
  fault : Bool
  faultCause : BitVec 2
  deriving DecidableEq, Repr

/-- The machine at the start of a tick. INVENTORY.md lists the rule of each field. -/
structure State where
  /-- The implementation parameters (R6); no step changes them (R223). -/
  params : Params
  /-- The MODEL's own: what the host will do, from this tick on (log 1). -/
  host : List HostAct
  /-- The MODEL's own: what the environment will show on `in_line`, from this tick on (log 2). -/
  line : List Level
  /-- The MODEL's own: what the free values are applied to (log 11; two instances with equal `draws`: log 23). -/
  draws : Nat
  /-- The MODEL's own: CMD_WHILE_BUSY was raised since the last reset, so the block is unspecified (R203; log 9). -/
  unspec : Bool
  /-- `NOW` (R31). -/
  now : Nat
  /-- `out_line`: its level in the tick before this one (R21, R40). -/
  outLine : Level
  /-- `BUSY` (R24). -/
  busy : Bool
  /-- `cur_op` (R28). -/
  curOp : CurOp
  /-- `RESULT_OK` (R25). -/
  resultOk : Bool
  /-- `RXDATA` (R26). -/
  rxData : Message
  /-- `FAULT` (R29). -/
  fault : Bool
  /-- `FAULT_CAUSE` (R29, R201). -/
  faultCause : BitVec 2
  /-- The transmit registers (R32). -/
  tx : TxRegs
  /-- The receive registers (R33). -/
  rx : RxRegs
  deriving DecidableEq, Repr

/-- Reasons for the machine to stop with a fault. There is none: the spec's two faults (R202, R203) set `FAULT` and the
block goes on, and nothing in the block is stuck (93_implementation_defined.md; log 20). -/
inductive Fault where
  deriving DecidableEq, Repr

/-- Reasons for the machine to refuse an instruction. -/
inductive Refusal where
  /-- Raised by an arm of `exec` for an instruction without a meaning; no arm raises it. Safe: the run stops. -/
  | notModelled (mnemonic : String)
  deriving DecidableEq, Repr

/-- The transmit registers after reset: unspecified in the spec, not read while idle (R37; DESIGN CHOICE, log 7). -/
def TxRegs.reset : TxRegs := { bits := [], len := 0#7, k := 0#7, phi := 0#12 }

/-- The receive registers after reset: unspecified in the spec, not read while idle (R37; DESIGN CHOICE, log 8). -/
def RxRegs.reset : RxRegs := { sr := 0#_, cnt := 0, po := false, tstart := 0, tlast := 0, seen := false }

/-- The machine right after a reset tick (R37, R222). -/
def State.reset : State :=
  { params := Config.params, host := [], line := [], draws := 1, unspec := false
    now := 0
    outLine := Config.outResetLevel 0
    busy := false, curOp := .idle
    resultOk := false, rxData := 0#_
    fault := false, faultCause := 0#2
    tx := TxRegs.reset, rx := RxRegs.reset }

end Sys2Proof.Machine
end

