-- ==== Sys2Proof/Machine/Operands.lean ====
section
/-! DEFINITION. Nibbles of a message, decimal digits and field insertion (00_scope.md R8; 43_command_builder.md R170, R171). -/

namespace Sys2Proof.Machine

/-- R8: the nibble of `x` at position `i`. Past the last nibble no bit is left, so position 16 reads as 0. -/
def nib (x : Message) (i : Nat) : Nibble := (x >>> (4 * i)).setWidth 4

/-- R171. -/
def ones (v : Nat) : Nat := v % 10

/-- R171: not reduced mod 10, so it is above 9 for `v >= 100`. -/
def tens (v : Nat) : Nat := v / 10

/-- R170: `v` ORed into `t` at nibble offset `off`, without a mask and without clearing the nibble first; bits past
bit 63 are lost. -/
def ins (t : Message) (v : Nat) (off : Fin 16) : Message :=
  t ||| (BitVec.ofNat Config.msgBits v <<< (4 * off.val))

end Sys2Proof.Machine
end

