-- ==== Sys2Proof/Machine/LineCoder.lean ====
section
/-! DEFINITION. The pulse-width line coder: bit and nibble encoders and the pulse classifier (40_line_coder.md). -/

namespace Sys2Proof.Machine

/-- R10: `H(b)`, the ticks a pulse of bit `b` is high. -/
def highTime (tm : Timing) (b : Bool) : Nat := if b then tm.t1High else tm.t0High

/-- R100: SEND_ZERO, the level in tick `ts + j` of a ZERO-pulse started at `ts`. -/
def sendZero (tm : Timing) (j : Nat) : Level := if j < tm.t0High then .high else .low

/-- R101: SEND_ONE, the level in tick `ts + j` of a ONE-pulse started at `ts`. -/
def sendOne (tm : Timing) (j : Nat) : Level := if j < tm.t1High then .high else .low

/-- R126: the pulse of bit `b`. -/
def sendBit (tm : Timing) (b : Bool) (j : Nat) : Level := if b then sendOne tm j else sendZero tm j

/-- R71, R122: the bits of a nibble in wire order, the most significant first. -/
def nibbleBits (v : Nibble) : List Bool := [v.getLsbD 3, v.getLsbD 2, v.getLsbD 1, v.getLsbD 0]

/-- R104: WRITE_NIBBLE, the level in tick `ts + j` of a nibble started at `ts`, for `j < 4 * BIT_PERIOD`. -/
def writeNibble (tm : Timing) (v : Nibble) (j : Nat) : Level :=
  sendBit tm (v.getLsbD (3 - j / tm.bitPeriod)) (j % tm.bitPeriod)

/-- R106: the bit of a measured time; `none` is NONE, the dead zone (R107). -/
def classify (tm : Timing) (e : Nat) : Option Bool :=
  if e < tm.rxT0Min then none else if e ≤ tm.rxT0Max then some false else some true

end Sys2Proof.Machine
end

