-- ==== Sys2Proof/Machine/Flags.lean ====
section
/-! DEFINITION. Parity (R10, R123, R150), the receiver's verdict (R147) and the fault cause codes (R201). -/

namespace Sys2Proof.Machine

/-- XOR of the `n` nibbles of `x` from position `i` up. -/
def xorNibbles (x : Message) (i : Nat) : Nat → Nibble
  | 0 => 0#4
  | n + 1 => nib x i ^^^ xorNibbles x (i + 1) n

/-- R10, R150: the XOR of positions 1 to 16, plus one mod 16. -/
def parityOf (x : Message) : Nibble := xorNibbles x 1 (Config.nibPositions - 1) + 1#4

/-- R150, R152. -/
def checkParity (x : Message) : Bool := parityOf x == nib x 0

/-- R147: what decides whether a received value `sr` of `cnt` bits is a message. -/
def frameOk (sr : Message) (cnt : Nat) : Bool := decide (cnt ≠ 0) && decide (cnt % 4 = 0) && checkParity sr

/-- R201: `ILLEGAL_CMD`. -/
def causeIllegalCmd : BitVec 2 := 1#2

/-- R201: `CMD_WHILE_BUSY`. -/
def causeCmdWhileBusy : BitVec 2 := 2#2

end Sys2Proof.Machine
end

