-- ==== Sys2Proof/Machine/Ops.lean ====
section
/-! DEFINITION. The operations the meanings and the tick share: ports, faults, acceptance, reset, the unspecified regime.
The block has no memory, so there is no memory operation (20_memory.md R50). Taking a fault is `recordFault`; there is no
return from one (60_exceptions.md R207). -/

namespace Sys2Proof.Machine

/-! Ports -/

/-- R9, R22: `sample()`, the level of `in_line` in this tick: what the environment's script says, else a free level. -/
def sample (s : State) : Level := s.line.headD (Config.envLine s.draws)

/-- R9: `drive(level)`, the level of `out_line` in this tick. -/
def drive (lv : Level) (s : State) : State := { s with outLine := lv }

/-- The transmit registers take `r`. -/
def setTx (r : TxRegs) (s : State) : State := { s with tx := r }

/-- The receive registers take `r`. -/
def setRx (r : RxRegs) (s : State) : State := { s with rx := r }

/-- What the host will do becomes `acts`. -/
def setHost (acts : List HostAct) (s : State) : State := { s with host := acts }

/-- What the environment will show on `in_line` becomes `ls`. -/
def setLine (ls : List Level) (s : State) : State := { s with line := ls }

/-- A host that drives nothing: no reset, no command. -/
def HostPins.silent : HostPins := { rst := false, cmdValid := false, cmd := 0#8, arg := 0#64 }

/-- The host offers the command word `w` for one tick. -/
def HostPins.offer (w : BitVec 72) : HostPins :=
  { rst := false, cmdValid := true, cmd := w.extractLsb' 0 8, arg := w.extractLsb' 8 64 }

/-- The host asserts `rst` for one tick and offers nothing. -/
def HostPins.reset : HostPins := { rst := true, cmdValid := false, cmd := 0#8, arg := 0#64 }

/-- R87: what a host script drives in a tick in which `BUSY` reads `busy`, and the script that is left. `WAITIDLE` offers
nothing until `BUSY` reads 0, and the line after it runs in that tick. A script that is over drives nothing (log 1). -/
def hostTick (busy : Bool) : List HostAct → HostPins × List HostAct
  | [] => (HostPins.silent, [])
  | .pins p :: acts => (p, acts)
  | .waitIdle :: acts => if busy then (HostPins.silent, .waitIdle :: acts) else hostTick busy acts
  | .delay 0 :: acts => hostTick busy acts
  | .delay (n + 1) :: acts => (HostPins.silent, .delay n :: acts)

/-- The input ports `rst`, `cmd_valid`, `CMD` and `ARG` in this tick (R20). -/
def hostPins (s : State) : HostPins := (hostTick s.busy s.host).1

/-- The host's script after this tick. -/
def hostRest (s : State) : List HostAct := (hostTick s.busy s.host).2

/-- R20, R38: the output ports the host reads. -/
def hostView (s : State) : HostView :=
  { busy := s.busy, resultOk := s.resultOk, rxData := s.rxData, fault := s.fault, faultCause := s.faultCause }

/-! Faults -/

/-- R202 to R204: record a fault; `FAULT_CAUSE` keeps the first one since reset. -/
def recordFault (cause : BitVec 2) (s : State) : State :=
  if s.fault then s else { s with fault := true, faultCause := cause }

/-- R202: a reserved command at an idle block; the command is dropped. -/
def illegalCmd (s : State) : State := recordFault causeIllegalCmd s

/-- R203: a command at a block that is not idle. The command is dropped, and the block is unspecified from the end of this
tick (log 9, log 10). -/
def cmdWhileBusy (s : State) : State := { recordFault causeCmdWhileBusy s with unspec := true }

/-! Acceptance and completion -/

/-- R28, R84: the block takes a command only when idle (and not in the unspecified regime of R203). -/
def accepting (s : State) : Bool := !s.unspec && decide (s.curOp = .idle)

/-- R84: offer a command whose acceptance gives `accepted`. -/
def offer (s accepted : State) : Host.Outcome State Fault Refusal :=
  .next (if accepting s then accepted else cmdWhileBusy s)

/-- R84, R204: what a reserved command raises; the busy check comes first. -/
def rejectReserved (s : State) : State := if accepting s then illegalCmd s else cmdWhileBusy s

/-- R9, R27: `complete()`. -/
def complete (s : State) : State := { s with curOp := .idle, busy := false }

/-! Time -/

/-- R31: the tick after `t`; `NOW` wraps mod `2^CLK_BITS` where `CLK_BITS` is finite. -/
def nextNow (p : Params) (t : Nat) : Nat :=
  match p.clkBits with
  | none => t + 1
  | some n => (t + 1) % 2 ^ n

/-- R31: the ticks from `t` to `now`, mod `2^CLK_BITS` where `CLK_BITS` is finite (log 14 for `t` after `now`). -/
def elapsed (p : Params) (now t : Nat) : Nat :=
  match p.clkBits with
  | none => now - t
  | some n => (now + 2 ^ n - t % 2 ^ n) % 2 ^ n

/-- The end of a tick: `NOW` rises by 1 (R31), and the scripts move on. -/
def advance (s : State) : State :=
  { s with now := nextNow s.params s.now, draws := s.draws + 1, line := s.line.tail }

/-! The unspecified regime -/

/-- R203, I1: at the end of a tick every register but `FAULT`, `FAULT_CAUSE` and `NOW` takes an unspecified value (log 9). -/
def scramble (s : State) : State :=
  { s with
    busy := Config.unspecBusy s.draws
    curOp := Config.unspecCurOp s.draws
    resultOk := Config.unspecResultOk s.draws
    rxData := Config.unspecRxData s.draws
    tx := { bits := Config.unspecTxBits s.draws, len := Config.unspecTxLen s.draws
            k := Config.unspecTxK s.draws, phi := Config.unspecTxPhi s.draws }
    rx := { sr := Config.unspecRxSr s.draws, cnt := Config.unspecRxCnt s.draws, po := Config.unspecRxPo s.draws
            tstart := Config.unspecRxTstart s.draws, tlast := Config.unspecRxTlast s.draws
            seen := Config.unspecRxSeen s.draws } }

/-! Reset -/

/-- R220: a tick with `rst = 1`. Every piece of state takes its value of R37, and `out_line` shows a newly drawn
`OUT_RESET_LEVEL` (log 5); no command is decoded and no engine runs. The parameters stay (R223), and the host and the
environment go on. -/
def resetTick (s : State) : State :=
  { State.reset with
    params := s.params
    host := hostRest s
    line := s.line.tail
    draws := s.draws + 1
    outLine := Config.outResetLevel s.draws }

end Sys2Proof.Machine
end

