-- ==== Sys2Proof/Machine/FrameTx.lean ====
section
/-! DEFINITION. The frame transmitter and SEND (41_frame_tx.md). -/

namespace Sys2Proof.Machine

/-- R121: the scan of positions `n - 1` down to 0 with the parity accumulator and the "emission started" flag, then the
parity nibble. -/
def frameScan (m : Message) : (n : Nat) → (acc : Nibble) → (started : Bool) → List Nibble
  | 0, acc, _ => [acc + 1#4]
  | i + 1, acc, started =>
    let d := nib m i
    let started' := started || decide (d ≠ 0#4)
    if started' then d :: frameScan m i (acc ^^^ d) started' else frameScan m i (acc ^^^ d) started'

/-- R121: the nibbles of the frame of `m` in wire order. -/
def frameNibbles (m : Message) : List Nibble := frameScan m Config.nibPositions 0#4 false

/-- R122: the bits of the frame of `m` in transmission order. -/
def frameBits (m : Message) : List Bool := (frameNibbles m).flatMap nibbleBits

/-- R125: transmit acceptance; `BUSY` is set as R24 says. -/
def startTx (m : Message) (s : State) : State :=
  { s with
    tx := { bits := frameBits m, len := BitVec.ofNat 7 (frameBits m).length, k := 0#7, phi := 0#12 }
    curOp := .tx
    busy := true }

/-- R126: `tx_bits[tx_k]` (log 12 for an index past the last bit). -/
def txBit (s : State) : Bool := s.tx.bits.getD s.tx.k.toNat (Config.pastTxBits s.draws)

/-- R126: the transmit engine's step. -/
def txTick (s : State) : State :=
  let lv := sendBit s.params.timing (txBit s) s.tx.phi.toNat
  if s.tx.phi.toNat = s.params.timing.bitPeriod - 1 then
    if s.tx.k = s.tx.len - 1#7 then drive lv (complete (setTx { s.tx with phi := 0#12 } s))
    else drive lv (setTx { s.tx with phi := 0#12, k := s.tx.k + 1#7 } s)
  else drive lv (setTx { s.tx with phi := s.tx.phi + 1#12 } s)

/-- SEND (R120): transmit `m` as one frame. -/
def execSend (m : BitVec 64) (s : State) : Host.Outcome State Fault Refusal := offer s (startTx m s)

end Sys2Proof.Machine
end

