-- ==== Sys2Proof/Machine/Builders.lean ====
section
/-! DEFINITION. The command frame assembler: the three builders (43_command_builder.md). No range is checked (R176). -/

namespace Sys2Proof.Machine

/-- R172: the playing-track frame's value. -/
def composePlay (p : Params) (track : BitVec 8) (secs : BitVec 16) : Message :=
  let sec := secs.toNat % 60
  let mn := secs.toNat / 60
  let f := ins p.tplPlay (ones track.toNat) p.offPlayTrkOnes
  let f := ins f (tens track.toNat) p.offPlayTrkTens
  let f := ins f (ones sec) p.offPlaySecOnes
  let f := ins f (tens sec) p.offPlaySecTens
  let f := ins f (ones mn) p.offPlayMinOnes
  ins f (tens mn) p.offPlayMinTens

/-- R173: the changed-CD frame's value; the slot number is one field, not split. -/
def composeChanged (p : Params) (cd track : BitVec 8) : Message :=
  let f := ins p.tplChanged cd.toNat p.offChgCd
  let f := ins f (ones track.toNat) p.offChgTrkOnes
  ins f (tens track.toNat) p.offChgTrkTens

/-- R174: the CD-status frame's value. -/
def composeStatus (p : Params) (cd : BitVec 8) : Message := ins p.tplStatus cd.toNat p.offStatCd

/-- SEND_PLAYING_TRACK (R172), handed to the transmitter (R175). -/
def execSendPlayingTrack (track : BitVec 8) (secs : BitVec 16) (s : State) : Host.Outcome State Fault Refusal :=
  offer s (startTx (composePlay s.params track secs) s)

/-- SEND_CHANGED_CD (R173), handed to the transmitter (R175). -/
def execSendChangedCd (cd track : BitVec 8) (s : State) : Host.Outcome State Fault Refusal :=
  offer s (startTx (composeChanged s.params cd track) s)

/-- SEND_CD_STATUS (R174), handed to the transmitter (R175). -/
def execSendCdStatus (cd : BitVec 8) (s : State) : Host.Outcome State Fault Refusal :=
  offer s (startTx (composeStatus s.params cd) s)

end Sys2Proof.Machine
end

