-- ==== Sys2Proof/Machine/FrameRx.lean ====
section
/-! DEFINITION. The frame receiver and the parity validator: RECEIVE and CHECK_PARITY (42_frame_rx.md). -/

namespace Sys2Proof.Machine

/-- R142: initialisation; `BUSY` is set as R24 says. -/
def startRx (s : State) : State :=
  { s with
    rx := { sr := 0#_, cnt := 0, po := false, tstart := s.now, tlast := s.now, seen := false }
    curOp := .rx
    busy := true }

/-- R143, R146: the bit that a high level gives after a measured time `e`; EDGE mode suppresses it while `rx_seen` is set. -/
def rxClassify (p : Params) (seen : Bool) (e : Nat) : Option Bool :=
  if p.deadzone = .edge ∧ seen = true then none else classify p.timing e

/-- R144: a classified bit enters at bit 0 of `rx_sr`, the counter rises and the pulse-observed flag is set. -/
def rxPush (b : Bool) (r : RxRegs) : RxRegs :=
  { r with sr := (r.sr <<< 1) ||| (BitVec.ofBool b).setWidth Config.msgBits, cnt := r.cnt + 1, po := true }

/-- R143 to R146: the locals of the window step after a sample of level `lv` in tick `now`. -/
def rxSample (p : Params) (lv : Level) (now : Nat) (r : RxRegs) : RxRegs :=
  match lv, r.po with
  | .high, false =>
    match rxClassify p r.seen (elapsed p now r.tlast) with
    | some b => rxPush b r
    | none => if p.deadzone = .edge then { r with seen := true } else r
  | .high, true => r
  | .low, true => { r with po := false, tlast := now }
  | .low, false => { r with seen := false }

/-- R141, R147: the results of a RECEIVE: the message without its parity nibble, or 0 and failure. -/
def finishRx (ok : Bool) (sr : Message) (s : State) : State :=
  complete { s with rxData := if ok then sr >>> 4 else 0#_, resultOk := ok }

/-- R143: the tick is the last one of the window. -/
def rxLast (s : State) : Bool := decide (elapsed s.params s.now s.rx.tstart + 1 = s.params.rxWindow)

/-- R143: the window step. In the last tick the verdict is on the locals, so a bit of that tick counts (R147). -/
def rxTick (s : State) : State :=
  let r := rxSample s.params (sample s) s.now s.rx
  if rxLast s then finishRx (frameOk r.sr r.cnt) r.sr s else setRx r s

/-- RECEIVE (R140): the trigger test (R141), then failure at once or a window (R142). -/
def execReceive (s : State) : Host.Outcome State Fault Refusal :=
  offer s (if sample s = .high then finishRx false 0#_ s else startRx s)

/-- CHECK_PARITY (R151). -/
def execCheckParity (x : BitVec 64) (s : State) : Host.Outcome State Fault Refusal :=
  offer s (complete { s with resultOk := checkParity x })

end Sys2Proof.Machine
end

