-- ==== Sys2Proof/Machine/Dispatch.lean ====
section
/-! DEFINITION. The meaning of each command, one arm for each constructor of Instr. -/

namespace Sys2Proof.Machine

/-- The command phase of a tick for an offered command `i` (R40, R84): accept it, or turn it away. -/
def exec (i : Instr) (s : State) : Host.Outcome State Fault Refusal :=
  match i with
  | .send m => Sys2Proof.Machine.execSend m s
  | .receive => Sys2Proof.Machine.execReceive s
  | .sendPlayingTrack track secs => Sys2Proof.Machine.execSendPlayingTrack track secs s
  | .sendChangedCd cd track => Sys2Proof.Machine.execSendChangedCd cd track s
  | .sendCdStatus cd => Sys2Proof.Machine.execSendCdStatus cd s
  | .checkParity x => Sys2Proof.Machine.execCheckParity x s

end Sys2Proof.Machine
end

