-- ==== Sys2Proof/Machine/Tick.lean ====
section
/-! DEFINITION. The phases of a tick (10_state.md R40). -/

namespace Sys2Proof.Machine

/-- R84: the word the host offers in this tick, if it offers one. -/
def offered (s : State) : Option CmdWord :=
  if (hostPins s).cmdValid then some (wordOf (hostPins s).cmd (hostPins s).arg) else none

/-- R40, R84: the command phase of a tick without reset. -/
def commandPhase (s : State) : Host.Outcome State Fault Refusal :=
  match offered s with
  | none => .next s
  | some w =>
    match decode w with
    | .ok i => exec i s
    | .error _ => .next (rejectReserved s)

/-- R40: the engine phase; an engine that does not transmit keeps the level of `out_line` (R21). -/
def engine (s : State) : State :=
  match s.curOp with
  | .idle => s
  | .tx => txTick s
  | .rx => rxTick s

/-- R203: in a tick that began in the unspecified regime the level of `out_line` is unspecified (log 9). -/
def engineOrUnspec (unspec : Bool) (s : State) : State :=
  if unspec then drive (Config.unspecOutLine s.draws) s else engine s

/-- The tick from the end of the command phase, which took `s` to `s1`: the engine phase (R40), unspecified values where
R203 says so, and the next tick's number and scripts. -/
def finishTick (s s1 : State) : State :=
  let s2 := engineOrUnspec s.unspec s1
  let s3 := if s1.unspec then scramble s2 else s2
  advance (setHost (hostRest s) s3)

end Sys2Proof.Machine
end

