-- ==== Sys2Proof/Machine/Step.lean ====
section
/-! DEFINITION. One step is one tick (10_state.md R40). -/

namespace Sys2Proof.Machine

/-- R40: reset first, then the command phase, then the engine phase. -/
def step (s : State) : Host.Outcome State Fault Refusal :=
  if (hostPins s).rst then .next (resetTick s)
  else
    match commandPhase s with
    | .next s1 => .next (finishTick s s1)
    | .fault r => .fault r
    | .refused r => .refused r

/-- `s` with a host that offers, in the next tick, the command word whose low `nbits` bits are those of `w` (log 3). -/
def State.withFetchWord (s : State) (nbits w : Nat) : State :=
  { s with host := .pins (HostPins.offer (tableWord nbits w)) :: hostRest s }

end Sys2Proof.Machine
end

