-- ==== Sys2Proof/WellFormed.lean ====
section
/-! DEFINITION. What is well formed: a line of host text (30_encoding.md R86, R87), a command word an assembler may produce
(R80, R81, R86), and a choice of parameters (00_scope.md R6).
An `Instr` needs no check: the type of each operand is exactly the field R81 gives it, so every term is a command. -/

namespace Sys2Proof

/-- A line of host text, its operands as the numbers that stand in the text (R86, R87). -/
inductive Line where
  | send (m : Nat)
  | receive
  | play (track secs : Nat)
  | changed (cd track : Nat)
  | status (cd : Nat)
  | chkpar (x : Nat)
  /-- R87: wait for `BUSY = 0`. -/
  | waitIdle
  /-- R87: offer nothing for `n` ticks. -/
  | delay (n : Nat)
  /-- R87: `SEND m` then `WAITIDLE`. -/
  | sendw (m : Nat)
  /-- R87: `RECEIVE` then `WAITIDLE`. -/
  | recvw
  deriving DecidableEq, Repr

/-- R86: every operand is in its range. An assembler refuses a line that is not well formed. -/
def Line.wellFormed : Line → Bool
  | .send m => decide (m < 2 ^ 64)
  | .receive => true
  | .play track secs => decide (track < 256) && decide (secs < 65536)
  | .changed cd track => decide (cd < 256) && decide (track < 256)
  | .status cd => decide (cd < 256)
  | .chkpar x => decide (x < 2 ^ 64)
  | .waitIdle => true
  | .delay _ => true
  | .sendw m => decide (m < 2 ^ 64)
  | .recvw => true

/-- R81: how many low bits of `ARG` the command with opcode `op` names. -/
def argBits (op : Nat) : Nat :=
  match op with
  | 1 => 64
  | 3 => 24
  | 4 => 16
  | 5 => 8
  | 6 => 64
  | _ => 0

/-- R86: a command word an assembler produces. `CMD` is one of the six (R82), and the bits of `ARG` that R81 does not
name are 0. -/
def CmdWordWellFormed (w : CmdWord) : Bool :=
  let op := w.toNat % 256
  decide (1 ≤ op) && decide (op ≤ 6) && decide (w.toNat < 2 ^ (8 + argBits op))

/-- R6: the constraints on the timing constants. That `BIT_PERIOD` is at least 1 and fits `tx_phi`, whose 12 bits R32 gives,
is read from R126 (DEDUCED, log 16). -/
def Timing.wellFormed (tm : Timing) : Bool :=
  decide (tm.t0High + tm.t0Low = tm.bitPeriod) && decide (tm.t1High + tm.t1Low = tm.bitPeriod) &&
    decide (0 < tm.rxT0Min) && decide (tm.rxT0Min ≤ tm.rxT0Max) &&
    decide (1 ≤ tm.bitPeriod) && decide (tm.bitPeriod ≤ 2 ^ 12)

/-- R226, R31: a clock measures a window of `w` ticks only where its elapsed times do not wrap before the last tick
(DEDUCED, log 21). -/
def clockCovers (clkBits : Option Nat) (w : Nat) : Bool :=
  match clkBits with
  | none => true
  | some n => decide (w ≤ 2 ^ n)

/-- R6: the constraints on the parameters (the ranges of the offsets are their types). -/
def Params.wellFormed (p : Params) : Bool :=
  p.timing.wellFormed && decide (1 ≤ p.rxWindow) && clockCovers p.clkBits p.rxWindow

end Sys2Proof
end

