-- ==== Sys2Proof/Machine/Assembler.lean ====
section
/-! DEFINITION. Host text: from lines to what the host drives, tick by tick (30_encoding.md R86, R87; log 19). -/

namespace Sys2Proof.Machine

/-- Why an assembler refuses a line (R86). -/
inductive AsmError where
  /-- The line's first word is no mnemonic of R86 or R87. -/
  | unknownMnemonic
  /-- The operands are not the numbers that the mnemonic takes. -/
  | badOperands
  /-- An operand is outside its range. -/
  | outOfRange
  deriving DecidableEq, Repr

/-- R86: the command of a line that is one, its operands reduced to their fields. -/
def lineInstr : Line → Option Instr
  | .send m => some (.send (BitVec.ofNat 64 m))
  | .receive => some .receive
  | .play track secs => some (.sendPlayingTrack (BitVec.ofNat 8 track) (BitVec.ofNat 16 secs))
  | .changed cd track => some (.sendChangedCd (BitVec.ofNat 8 cd) (BitVec.ofNat 8 track))
  | .status cd => some (.sendCdStatus (BitVec.ofNat 8 cd))
  | .chkpar x => some (.checkParity (BitVec.ofNat 64 x))
  | .sendw m => some (.send (BitVec.ofNat 64 m))
  | .recvw => some .receive
  | .waitIdle => none
  | .delay _ => none

/-- R86, R88: the host offers the word of a command for one tick. -/
def offerOf (i : Instr) : HostAct := .pins (HostPins.offer (encode i))

/-- R87: what follows the command of a line. -/
def lineTail : Line → List HostAct
  | .waitIdle => [.waitIdle]
  | .delay n => [.delay n]
  | .sendw _ => [.waitIdle]
  | .recvw => [.waitIdle]
  | _ => []

/-- R86, R87: what the host does for a line; an operand outside its range is refused. -/
def assembleLine (l : Line) : Except AsmError (List HostAct) :=
  if l.wellFormed then .ok (((lineInstr l).map offerOf).toList ++ lineTail l) else .error .outOfRange

/-- The host script of a program. -/
def assemble : List Line → Except AsmError (List HostAct)
  | [] => .ok []
  | l :: ls =>
    match assembleLine l, assemble ls with
    | .ok acts, .ok more => .ok (acts ++ more)
    | .error e, _ => .error e
    | .ok _, .error e => .error e

/-! The text of a line (R86). -/

/-- White space inside a line. -/
def isBlank (c : Char) : Bool := c == ' ' || c == '\t' || c == '\r'

/-- `cs` without white space at either side. -/
def trimBlank (cs : List Char) : List Char := ((cs.dropWhile isBlank).reverse.dropWhile isBlank).reverse

/-- The value of a digit in a base up to 16. -/
def digitValue (base : Nat) (c : Char) : Option Nat :=
  let n := c.toNat
  let v := if 48 ≤ n ∧ n ≤ 57 then n - 48 else if 65 ≤ n ∧ n ≤ 70 then n - 55 else if 97 ≤ n ∧ n ≤ 102 then n - 87 else 16
  if v < base then some v else none

/-- The number of a list of digits that follow a number `acc`. -/
def digitsValue (base : Nat) : (acc : Nat) → List Char → Option Nat
  | acc, [] => some acc
  | acc, c :: cs =>
    match digitValue base c with
    | some d => digitsValue base (acc * base + d) cs
    | none => none

/-- R86: a number is decimal, or hexadecimal after `0x`. -/
def parseNumber (cs : List Char) : Option Nat :=
  match trimBlank cs with
  | [] => none
  | '0' :: 'x' :: [] => none
  | '0' :: 'x' :: ds => digitsValue 16 0 ds
  | ds => digitsValue 10 0 ds

/-- The parts of a text between the characters `sep`. -/
def splitAt (sep : Char) : List Char → List (List Char)
  | [] => [[]]
  | c :: cs =>
    match splitAt sep cs with
    | [] => [[c]]
    | w :: ws => if c = sep then [] :: w :: ws else (c :: w) :: ws

/-- R86: the operands of a line, separated by commas. -/
def parseOperands (cs : List Char) : Option (List Nat) :=
  if trimBlank cs = [] then some [] else (splitAt ',' cs).mapM parseNumber

/-- R86, R87: the line that a mnemonic and its operands make. -/
def makeLine (mnemonic : List Char) (ops : List Nat) : Except AsmError Line :=
  if mnemonic = "SEND".toList then
    match ops with
    | [m] => .ok (.send m)
    | _ => .error .badOperands
  else if mnemonic = "RECEIVE".toList then (if ops = [] then .ok .receive else .error .badOperands)
  else if mnemonic = "PLAY".toList then
    match ops with
    | [track, secs] => .ok (.play track secs)
    | _ => .error .badOperands
  else if mnemonic = "CHANGED".toList then
    match ops with
    | [cd, track] => .ok (.changed cd track)
    | _ => .error .badOperands
  else if mnemonic = "STATUS".toList then
    match ops with
    | [cd] => .ok (.status cd)
    | _ => .error .badOperands
  else if mnemonic = "CHKPAR".toList then
    match ops with
    | [x] => .ok (.chkpar x)
    | _ => .error .badOperands
  else if mnemonic = "WAITIDLE".toList then (if ops = [] then .ok .waitIdle else .error .badOperands)
  else if mnemonic = "DELAY".toList then
    match ops with
    | [n] => .ok (.delay n)
    | _ => .error .badOperands
  else if mnemonic = "SENDW".toList then
    match ops with
    | [m] => .ok (.sendw m)
    | _ => .error .badOperands
  else if mnemonic = "RECVW".toList then (if ops = [] then .ok .recvw else .error .badOperands)
  else .error .unknownMnemonic

/-- R86: the line of a text without a line break; a `;` starts a comment, and a text with nothing else is no line. -/
def parseLine (text : List Char) : Except AsmError (Option Line) :=
  let body := trimBlank (text.takeWhile (fun c => c != ';'))
  if body = [] then .ok none
  else
    match parseOperands (body.dropWhile (fun c => !isBlank c)) with
    | none => .error .badOperands
    | some ops =>
      match makeLine (body.takeWhile (fun c => !isBlank c)) ops with
      | .ok l => .ok (some l)
      | .error e => .error e

/-- The lines of a list of texts. -/
def parseLines : List (List Char) → Except AsmError (List Line)
  | [] => .ok []
  | t :: ts =>
    match parseLine t, parseLines ts with
    | .ok l, .ok ls => .ok (l.toList ++ ls)
    | .error e, _ => .error e
    | .ok _, .error e => .error e

/-- R86, R87: the host script of a program text, one command a line. -/
def assembleText (text : List Char) : Except AsmError (List HostAct) :=
  match parseLines (splitAt '\n' text) with
  | .ok ls => assemble ls
  | .error e => .error e

end Sys2Proof.Machine
end

