-- ==== Sys2Proof/Safety.lean ====
section
/-! DEFINITION. What a run shows and when it is a good one (70_reset_and_hazards.md R234; 60_exceptions.md R205), and the
invariant of the machine. -/

namespace Sys2Proof.Machine

/-- R234: the trace of `out_line` over `n` ticks from `s`. -/
def lineTrace : Nat → State → List Level
  | 0, _ => []
  | n + 1, s =>
    match step s with
    | .next t => t.outLine :: lineTrace n t
    | .fault _ => []
    | .refused _ => []

/-- `s` with `NOW` and both receive timestamps moved by `d` ticks (R31). -/
def shiftNow (d : Nat) (s : State) : State :=
  { s with now := s.now + d, rx := { s.rx with tstart := s.rx.tstart + d, tlast := s.rx.tlast + d } }

/-- The host action offers no command. -/
def HostAct.quiet : HostAct → Bool
  | .pins p => !p.cmdValid
  | .waitIdle => true
  | .delay _ => true

/-- R234: the host has no command left to offer, and `BUSY` reads 0. The first such tick ends a run; what the host drives
after its last command, a reset too, does not put it off. -/
def runEnded (s : State) : Bool := s.host.all HostAct.quiet && !s.busy

/-- R234: the run from `s`, as the states at the start of its ticks, from the first tick to the first one in which it has
ended; `none` where it has not ended after `n` ticks. -/
def runStates : (n : Nat) → State → Option (List State)
  | 0, s => if runEnded s then some [s] else none
  | n + 1, s =>
    if runEnded s then some [s]
    else
      match step s with
      | .next t => (runStates n t).map (s :: ·)
      | .fault _ => none
      | .refused _ => none

/-- What a run shows (R234). -/
structure Observation where
  /-- The levels of `out_line` in the ticks of the run before the one that ends it (log 24). -/
  trace : List Level
  /-- The outputs of the tick that ends it; `BUSY` reads 0 there. -/
  final : HostView
  deriving DecidableEq, Repr

/-- R234: the observation of the run from `s`, where it ends within `n` ticks. -/
def observe (n : Nat) (s : State) : Option Observation :=
  (runStates n s).bind fun states =>
    states.getLast?.map fun last => { trace := states.tail.map State.outLine, final := hostView last }

/-- R205, R234: the run from `s` ends within `n` ticks, and no tick of it, its last one too, shows `FAULT = 1`. That a reset in
mid-run does not redeem a run is the MODEL's choice (DESIGN CHOICE, log 25). -/
def goodRun (n : Nat) (s : State) : Bool :=
  match runStates n s with
  | some states => states.all fun t => !t.fault
  | none => false

/-- R29, R201, R203, R205: the two fault registers agree, cause 3 is never written, and the unspecified regime is a faulted
one. -/
def FaultInv (s : State) : Prop :=
  (s.fault = false ↔ s.faultCause = 0#2) ∧ s.faultCause ≠ 3#2 ∧ (s.unspec = true → s.fault = true)

/-- R24, R27: `BUSY` reads 1 exactly when an operation runs. -/
def BusyInv (s : State) : Prop := s.busy = true ↔ s.curOp ≠ .idle

/-- R32: the ranges of the transmit registers while a frame goes out. -/
def TxInv (s : State) : Prop :=
  s.curOp = .tx →
    s.tx.bits.length = s.tx.len.toNat ∧ s.tx.len.toNat % 4 = 0 ∧ 4 ≤ s.tx.len.toNat ∧ s.tx.len.toNat ≤ 68 ∧
      s.tx.k.toNat < s.tx.len.toNat ∧ s.tx.phi.toNat < s.params.timing.bitPeriod

/-- R33, R143, R149: the receive registers while a window runs under an unbounded clock. Classifications are at least
`RX_T0_MIN + 1` ticks apart, and `rx_seen` suppresses them in EDGE mode. -/
def RxInv (s : State) : Prop :=
  s.curOp = .rx → s.params.clkBits = none →
    s.rx.tstart ≤ s.rx.tlast ∧ s.rx.tlast < s.now ∧ s.now - s.rx.tstart < s.params.rxWindow ∧
      (s.rx.po = false → s.rx.cnt * (s.params.timing.rxT0Min + 1) ≤ s.rx.tlast - s.rx.tstart) ∧
      (s.rx.po = true → 1 ≤ s.rx.cnt ∧ (s.rx.cnt - 1) * (s.params.timing.rxT0Min + 1) ≤ s.rx.tlast - s.rx.tstart ∧
        s.rx.tlast + s.params.timing.rxT0Min < s.now)

/-- The invariant of the machine. In the unspecified regime only the fault registers keep a promise. -/
def MachineInv (s : State) : Prop :=
  s.params.wellFormed = true ∧ FaultInv s ∧ (s.unspec = false → BusyInv s ∧ TxInv s ∧ RxInv s)

end Sys2Proof.Machine
end

