-- ==== Sys2Proof/Certificates/Slice0/Obligations.lean ====
section
/-! DEFINITION. The statements for the provers. Each docstring names the rule of spec/ that the statement formalises. -/

open Sys2Proof Sys2Proof.Machine

/-! ## Command words -/

/-- 30_encoding.md section 2: no bit of an operand is dropped between the encoder and the decoder. -/
def Obligations.DecodeOfEncodeIsTheInstruction : Prop :=
  ∀ i : Instr, decode (encode i) = .ok i

/-- R81, R86: encoding a decoded command gives back `CMD` and the bits of `ARG` that R81 names; the others become 0. -/
def Obligations.EncodeOfDecodeKeepsTheNamedBits : Prop :=
  ∀ (w : CmdWord) (i : Instr), decode w = .ok i →
    cmdOf (encode i) = cmdOf w ∧
      ∀ k, k < 64 →
        (argOf (encode i)).getLsbD k = ((argOf w).getLsbD k && decide (k < argBits (cmdOf w).toNat))

/-- R81: the operand fields of each command, and nothing else of `ARG`. -/
def Obligations.DecodeReadsTheNamedFields : Prop :=
  ∀ arg : BitVec 64,
    decode (wordOf 0x01#8 arg) = .ok (.send arg) ∧
    decode (wordOf 0x02#8 arg) = .ok .receive ∧
    decode (wordOf 0x03#8 arg) = .ok (.sendPlayingTrack (arg.extractLsb' 0 8) (arg.extractLsb' 8 16)) ∧
    decode (wordOf 0x04#8 arg) = .ok (.sendChangedCd (arg.extractLsb' 0 8) (arg.extractLsb' 8 8)) ∧
    decode (wordOf 0x05#8 arg) = .ok (.sendCdStatus (arg.extractLsb' 0 8)) ∧
    decode (wordOf 0x06#8 arg) = .ok (.checkParity arg)

/-- 95_test_vectors.md P1 to P7, V-CB-1, V-CB-2: words written out from the encoding tables decode to their commands. -/
def Obligations.WrittenWordsDecodeToTheirCommands : Prop :=
  decode 0x000000000000001201#72 = .ok (.send 0x12#64) ∧
  decode 0x000000000000000002#72 = .ok .receive ∧
  decode 0x0000000000007D0C03#72 = .ok (.sendPlayingTrack 12#8 125#16) ∧
  decode 0x000000000000070304#72 = .ok (.sendChangedCd 3#8 7#8) ∧
  decode 0x000000000000000505#72 = .ok (.sendCdStatus 5#8) ∧
  decode 0x00000000000000F006#72 = .ok (.checkParity 0xF0#64) ∧
  decode 0x000000000000000007#72 = .error .reservedOpcode ∧
  decode 0x000000000000000009#72 = .error .reservedBits

/-- R202, R83: a reserved `CMD` at an idle block. Every other `CMD` is one of the six commands and is executed. -/
def Obligations.ReservedCommandsRaiseIllegalCmd : Prop :=
  ∀ (s : State) (w : CmdWord), accepting s = true → (hostPins s).rst = false → offered s = some w →
    if (cmdOf w).extractLsb' 0 3 = 0#3 ∨ (cmdOf w).extractLsb' 0 3 = 7#3 ∨ (cmdOf w).extractLsb' 3 5 ≠ 0#5 then
      commandPhase s = .next { s with fault := true, faultCause := if s.fault then s.faultCause else 1#2 } ∧
      step s = .next (advance { s with
        fault := true, faultCause := if s.fault then s.faultCause else 1#2, host := hostRest s })
    else ∃ i, decode w = .ok i ∧ commandPhase s = exec i s

/-- R86: what the host drives for each line with operands, and that an operand outside its range is refused. -/
def Obligations.AssemblerEncodesLinesAndRefusesOutOfRange : Prop :=
  (∀ m, assembleLine (.send m) =
    if m < 2 ^ 64 then .ok [.pins ⟨false, true, 0x01#8, BitVec.ofNat 64 m⟩] else .error .outOfRange) ∧
  assembleLine .receive = .ok [.pins ⟨false, true, 0x02#8, 0#64⟩] ∧
  (∀ track secs, assembleLine (.play track secs) =
    if track < 256 ∧ secs < 65536 then .ok [.pins ⟨false, true, 0x03#8, BitVec.ofNat 64 (secs * 256 + track)⟩]
    else .error .outOfRange) ∧
  (∀ cd track, assembleLine (.changed cd track) =
    if cd < 256 ∧ track < 256 then .ok [.pins ⟨false, true, 0x04#8, BitVec.ofNat 64 (track * 256 + cd)⟩]
    else .error .outOfRange) ∧
  (∀ cd, assembleLine (.status cd) =
    if cd < 256 then .ok [.pins ⟨false, true, 0x05#8, BitVec.ofNat 64 cd⟩] else .error .outOfRange) ∧
  (∀ x, assembleLine (.chkpar x) =
    if x < 2 ^ 64 then .ok [.pins ⟨false, true, 0x06#8, BitVec.ofNat 64 x⟩] else .error .outOfRange)

/-- R87: `WAITIDLE` and `DELAY n` in the host's script, and what `SENDW` and `RECVW` stand for. -/
def Obligations.PseudoInstructionsAreHostBehaviour : Prop :=
  (∀ (s : State) (p : HostPins) (acts : List HostAct), s.host = .pins p :: acts →
    hostPins s = p ∧ hostRest s = acts) ∧
  (∀ (s : State) (acts : List HostAct), s.host = .waitIdle :: acts →
    (s.busy = true → (hostPins s).rst = false ∧ offered s = none ∧ hostRest s = s.host) ∧
    (s.busy = false → hostPins s = hostPins (setHost acts s) ∧ hostRest s = hostRest (setHost acts s))) ∧
  (∀ (s : State) (n : Nat) (acts : List HostAct), s.host = .delay (n + 1) :: acts →
    (hostPins s).rst = false ∧ offered s = none ∧ hostRest s = .delay n :: acts) ∧
  (∀ (s : State) (acts : List HostAct), s.host = .delay 0 :: acts →
    hostPins s = hostPins (setHost acts s) ∧ hostRest s = hostRest (setHost acts s)) ∧
  (∀ m, m < 2 ^ 64 → assembleLine (.sendw m) = .ok [offerOf (.send (BitVec.ofNat 64 m)), .waitIdle]) ∧
  assembleLine .recvw = .ok [offerOf .receive, .waitIdle] ∧
  assembleLine .waitIdle = .ok [.waitIdle] ∧
  (∀ n, assembleLine (.delay n) = .ok [.delay n])

/-! ## The tick -/

/-- R40, R84: a tick without reset runs `exec` of the command it is offered, then the engine sees the result, then time
moves on; a tick without a command only does the latter two. -/
def Obligations.StepRunsTheDecodedInstruction : Prop :=
  (∀ (s : State) (w : CmdWord) (i : Instr), (hostPins s).rst = false → offered s = some w → decode w = .ok i →
    ∃ s1, exec i s = .next s1 ∧ step s = .next (finishTick s s1)) ∧
  (∀ s : State, (hostPins s).rst = false → offered s = none → step s = .next (finishTick s s)) ∧
  (∀ s s1 : State, s.unspec = false → s1.unspec = false →
    finishTick s s1 = advance (setHost (hostRest s) (engine s1)))

/-- 93_implementation_defined.md: nothing in the block is stuck; every tick has a next state. -/
def Obligations.EveryTickHasANextState : Prop :=
  ∀ s : State, ∃ t, step s = .next t

/-- R204: the order of the checks in one tick, and that `FAULT_CAUSE` keeps the first fault. -/
def Obligations.ChecksRunInTheirOrder : Prop :=
  ∀ s : State, s.unspec = false →
    ((hostPins s).rst = true → step s = .next (resetTick s)) ∧
    ((hostPins s).rst = false → ∀ w, offered s = some w →
      (s.curOp ≠ .idle → ∃ t, step s = .next t ∧ t.fault = true ∧
        t.faultCause = if s.fault then s.faultCause else 2#2) ∧
      (s.curOp = .idle → ∀ e, decode w = .error e → ∃ t, step s = .next t ∧ t.fault = true ∧
        t.faultCause = if s.fault then s.faultCause else 1#2) ∧
      (s.curOp = .idle → ∀ i, decode w = .ok i → commandPhase s = exec i s ∧
        ∃ t, step s = .next t ∧ t.fault = s.fault ∧ t.faultCause = s.faultCause))

/-- R213: an idle block that is offered nothing keeps its state and the level of `out_line`; only time moves on. -/
def Obligations.IdleBlockKeepsItsState : Prop :=
  ∀ s : State, s.unspec = false → s.curOp = .idle → (hostPins s).rst = false → offered s = none →
    step s = .next { s with
      now := nextNow s.params s.now, draws := s.draws + 1, host := hostRest s, line := s.line.tail }

/-! ## Acceptance: each command at an idle block -/

/-- R125: SEND loads the transmitter with the frame, and the engine phase of the same tick runs on it. -/
def Obligations.SendLoadsTheTransmitter : Prop :=
  ∀ (s : State) (m : BitVec 64), accepting s = true →
    ∃ s1 : State,
      s1 = { s with
        tx := { bits := frameBits m, len := BitVec.ofNat 7 (frameBits m).length, k := 0#7, phi := 0#12 }
        curOp := .tx
        busy := true } ∧
      4 ≤ (frameBits m).length ∧ (frameBits m).length ≤ 68 ∧ s1.tx.len.toNat = (frameBits m).length ∧
      exec (.send m) s = .next s1 ∧
      ((hostPins s).rst = false → offered s = some (encode (.send m)) →
        step s = .next (advance (setHost (hostRest s) (txTick s1))))

/-- R172: SEND_PLAYING_TRACK composes its value from the template and the six digits and hands it to the transmitter; at a
block that is busy it raises CMD_WHILE_BUSY. -/
def Obligations.PlayingTrackSendsItsComposedValue : Prop :=
  ∀ (s : State) (arg : BitVec 64), ∃ (track : BitVec 8) (secs : BitVec 16) (f : Message),
    track = arg.extractLsb' 0 8 ∧ secs = arg.extractLsb' 8 16 ∧
    f = s.params.tplPlay
        ||| (BitVec.ofNat 64 (track.toNat % 10) <<< (4 * s.params.offPlayTrkOnes.val))
        ||| (BitVec.ofNat 64 (track.toNat / 10) <<< (4 * s.params.offPlayTrkTens.val))
        ||| (BitVec.ofNat 64 (secs.toNat % 60 % 10) <<< (4 * s.params.offPlaySecOnes.val))
        ||| (BitVec.ofNat 64 (secs.toNat % 60 / 10) <<< (4 * s.params.offPlaySecTens.val))
        ||| (BitVec.ofNat 64 (secs.toNat / 60 % 10) <<< (4 * s.params.offPlayMinOnes.val))
        ||| (BitVec.ofNat 64 (secs.toNat / 60 / 10) <<< (4 * s.params.offPlayMinTens.val)) ∧
    decode (wordOf 0x03#8 arg) = .ok (.sendPlayingTrack track secs) ∧
    (accepting s = true → exec (.sendPlayingTrack track secs) s = .next { s with
      tx := { bits := frameBits f, len := BitVec.ofNat 7 (frameBits f).length, k := 0#7, phi := 0#12 }
      curOp := .tx
      busy := true }) ∧
    (s.curOp ≠ .idle → ∃ t, exec (.sendPlayingTrack track secs) s = .next t ∧ t.fault = true ∧
      t.faultCause = if s.fault then s.faultCause else 2#2)

/-- R173: SEND_CHANGED_CD, likewise; the slot number is one field, the track is split. -/
def Obligations.ChangedCdSendsItsComposedValue : Prop :=
  ∀ (s : State) (arg : BitVec 64), ∃ (cd track : BitVec 8) (f : Message),
    cd = arg.extractLsb' 0 8 ∧ track = arg.extractLsb' 8 8 ∧
    f = s.params.tplChanged
        ||| (BitVec.ofNat 64 cd.toNat <<< (4 * s.params.offChgCd.val))
        ||| (BitVec.ofNat 64 (track.toNat % 10) <<< (4 * s.params.offChgTrkOnes.val))
        ||| (BitVec.ofNat 64 (track.toNat / 10) <<< (4 * s.params.offChgTrkTens.val)) ∧
    decode (wordOf 0x04#8 arg) = .ok (.sendChangedCd cd track) ∧
    (accepting s = true → exec (.sendChangedCd cd track) s = .next { s with
      tx := { bits := frameBits f, len := BitVec.ofNat 7 (frameBits f).length, k := 0#7, phi := 0#12 }
      curOp := .tx
      busy := true }) ∧
    (s.curOp ≠ .idle → ∃ t, exec (.sendChangedCd cd track) s = .next t ∧ t.fault = true ∧
      t.faultCause = if s.fault then s.faultCause else 2#2)

/-- R174: SEND_CD_STATUS, likewise. Where the template's nibble at the field's offset is 0 and the slot is below 16, that
nibble of the value is the slot. -/
def Obligations.CdStatusSendsItsComposedValue : Prop :=
  ∀ (s : State) (arg : BitVec 64), ∃ (cd : BitVec 8) (f : Message),
    cd = arg.extractLsb' 0 8 ∧
    f = s.params.tplStatus ||| (BitVec.ofNat 64 cd.toNat <<< (4 * s.params.offStatCd.val)) ∧
    (nib s.params.tplStatus s.params.offStatCd.val = 0#4 → cd.toNat < 16 →
      (nib f s.params.offStatCd.val).toNat = cd.toNat) ∧
    decode (wordOf 0x05#8 arg) = .ok (.sendCdStatus cd) ∧
    (accepting s = true → exec (.sendCdStatus cd) s = .next { s with
      tx := { bits := frameBits f, len := BitVec.ofNat 7 (frameBits f).length, k := 0#7, phi := 0#12 }
      curOp := .tx
      busy := true }) ∧
    (s.curOp ≠ .idle → ∃ t, exec (.sendCdStatus cd) s = .next t ∧ t.fault = true ∧
      t.faultCause = if s.fault then s.faultCause else 2#2)

/-- R141, R142: the trigger test of RECEIVE and, where the line is low, its initialisation; the engine phase of the same tick
runs on it. -/
def Obligations.ReceiveTestsTheLineAndInitialises : Prop :=
  ∀ s : State, accepting s = true →
    (sample s = .high →
      exec .receive s = .next { s with rxData := 0#64, resultOk := false, curOp := .idle, busy := false }) ∧
    (sample s = .low → ∃ s1 : State,
      s1 = { s with
        rx := { sr := 0#64, cnt := 0, po := false, tstart := s.now, tlast := s.now, seen := false }
        curOp := .rx
        busy := true } ∧
      exec .receive s = .next s1 ∧
      ((hostPins s).rst = false → offered s = some (encode .receive) →
        step s = .next (advance (setHost (hostRest s) (rxTick s1)))))

/-- R151: CHECK_PARITY writes `RESULT_OK` in its acceptance tick and nothing else (`BUSY` reads 0 in the next tick); at a
block that is busy it raises CMD_WHILE_BUSY. -/
def Obligations.CheckParityWritesResultOk : Prop :=
  ∀ (s : State) (x : BitVec 64),
    (accepting s = true →
      exec (.checkParity x) s = .next { s with resultOk := checkParity x, curOp := .idle, busy := false } ∧
      ((hostPins s).rst = false → offered s = some (encode (.checkParity x)) →
        step s = .next (advance { s with
          resultOk := checkParity x, curOp := .idle, busy := false, host := hostRest s }))) ∧
    (s.curOp ≠ .idle → ∃ t, exec (.checkParity x) s = .next t ∧ t.fault = true ∧
      t.faultCause = if s.fault then s.faultCause else 2#2)

/-- R175: each builder behaves exactly as a SEND of its composed value offered in the same tick. That this holds at every
block, one that turns the command away too, rests there on the MODEL's free values, which depend on `draws` alone (log 9,
log 11). -/
def Obligations.BuildersActAsSendOfTheirValue : Prop :=
  ∀ (s : State) (acts : List HostAct) (track cd : BitVec 8) (secs : BitVec 16),
    step (setHost (offerOf (.sendPlayingTrack track secs) :: acts) s) =
      step (setHost (offerOf (.send (composePlay s.params track secs)) :: acts) s) ∧
    step (setHost (offerOf (.sendChangedCd cd track) :: acts) s) =
      step (setHost (offerOf (.send (composeChanged s.params cd track)) :: acts) s) ∧
    step (setHost (offerOf (.sendCdStatus cd) :: acts) s) =
      step (setHost (offerOf (.send (composeStatus s.params cd)) :: acts) s)

/-! ## Faults and the unspecified regime -/

/-- R203: a command at a block that is not idle sets `FAULT` and the cause and is dropped. The MODEL's own part (log 9): the
regime in which the rest is unspecified begins. -/
def Obligations.BusyBlockTurnsCommandsAway : Prop :=
  ∀ (s : State), accepting s = false →
    (∀ i : Instr, exec i s =
      .next { s with fault := true, faultCause := if s.fault then s.faultCause else 2#2, unspec := true }) ∧
    (∀ w e, offered s = some w → decode w = .error e → commandPhase s =
      .next { s with fault := true, faultCause := if s.fault then s.faultCause else 2#2, unspec := true })

/-- The MODEL's reading of R203 with R40 (log 10): in the tick that raises CMD_WHILE_BUSY the running frame still drives
`out_line`. -/
def Obligations.BusyFaultTickStillDrivesTheLine : Prop :=
  ∀ (s : State) (w : CmdWord), s.unspec = false → s.curOp = .tx → (hostPins s).rst = false → offered s = some w →
    ∃ t, step s = .next t ∧ t.outLine = sendBit s.params.timing (txBit s) s.tx.phi.toNat ∧ t.unspec = true

/-- The MODEL's form of R203 and R205 (log 9): in the unspecified regime the fault registers and the parameters stay, and
only a reset ends it. -/
def Obligations.UnspecifiedRegimeEndsOnlyByReset : Prop :=
  ∀ s t : State, FaultInv s → s.unspec = true → step s = .next t →
    ((hostPins s).rst = false → t.unspec = true ∧ t.fault = true ∧ t.faultCause = s.faultCause ∧ t.params = s.params) ∧
    ((hostPins s).rst = true → t.unspec = false ∧ t.fault = false ∧ t.curOp = .idle)

/-- R205, R29: only reset clears `FAULT`, and the cause of the first fault stays. -/
def Obligations.FaultStaysUntilReset : Prop :=
  ∀ s t : State, s.fault = true → (hostPins s).rst = false → step s = .next t →
    t.fault = true ∧ t.faultCause = s.faultCause

/-- R201, R29: `FAULT` rises only by a command at a busy block (cause 2) or a reserved command at an idle one (cause 1). -/
def Obligations.FaultHasTwoCauses : Prop :=
  ∀ s t : State, s.unspec = false → s.fault = false → step s = .next t → t.fault = true →
    (hostPins s).rst = false ∧ ∃ w, offered s = some w ∧
      ((s.curOp ≠ .idle ∧ t.faultCause = 2#2) ∨
        (s.curOp = .idle ∧ (∃ e, decode w = .error e) ∧ t.faultCause = 1#2))

/-! ## Reset and the invariant -/

/-- R220, R37: what a reset tick leaves, whatever ran. The level of `out_line` is the OPEN parameter, drawn anew (log 5). -/
def Obligations.ResetTickRestoresTheResetValues : Prop :=
  ∀ s : State, (hostPins s).rst = true → ∃ t, step s = .next t ∧
    t.outLine = Config.outResetLevel s.draws ∧ t.busy = false ∧ t.curOp = .idle ∧ t.resultOk = false ∧
    t.rxData = 0#64 ∧ t.fault = false ∧ t.faultCause = 0#2 ∧ t.unspec = false ∧ t.params = s.params

/-- R222: after reset the block is idle and takes a command in the first tick without reset. -/
def Obligations.BlockIsReadyAfterReset : Prop :=
  (∀ s t : State, (hostPins s).rst = true → step s = .next t →
    t.curOp = .idle ∧ t.busy = false ∧
      ∀ i : Instr, (∃ s1, exec i t = .next s1 ∧ s1.fault = false) ∧ accepting t = true) ∧
  State.reset.curOp = .idle ∧ State.reset.busy = false ∧ accepting State.reset = true

/-- The invariant holds right after reset. -/
def Obligations.InvariantHoldsAtReset : Prop := MachineInv State.reset

/-- R24, R27, R29, R32, R33, R149, R201, R205: every tick keeps the invariant, from every state that meets it. -/
def Obligations.InvariantKeptByEveryTick : Prop :=
  ∀ s t : State, MachineInv s → step s = .next t → MachineInv t

/-- R6: the source's values of the parameters, which the machine has at reset, and the constraints on every choice of them.
The bounds on `BIT_PERIOD` (log 16) and the clock that covers the window (log 21) are the MODEL's inferences. -/
def Obligations.ParametersAtResetAreTheSourceValues : Prop :=
  Config.timing.t0High = 600 ∧ Config.timing.t0Low = 2400 ∧ Config.timing.t1High = 1800 ∧ Config.timing.t1Low = 1200 ∧
  Config.timing.bitPeriod = 3000 ∧ Config.timing.rxT0Min = 600 ∧ Config.timing.rxT0Max = 1400 ∧
  Config.msgBits = 64 ∧ Config.nibPositions = 17 ∧
  State.reset.params.timing = Config.timing ∧ State.reset.params.rxWindow = 4000 ∧
  State.reset.params.clkBits = none ∧ State.reset.params.deadzone = .level ∧ State.reset.params.wellFormed = true ∧
  ∀ p : Params, p.wellFormed = true ↔
    p.timing.t0High + p.timing.t0Low = p.timing.bitPeriod ∧ p.timing.t1High + p.timing.t1Low = p.timing.bitPeriod ∧
    0 < p.timing.rxT0Min ∧ p.timing.rxT0Min ≤ p.timing.rxT0Max ∧ 1 ≤ p.timing.bitPeriod ∧ p.timing.bitPeriod ≤ 4096 ∧
    1 ≤ p.rxWindow ∧ (∀ n, p.clkBits = some n → p.rxWindow ≤ 2 ^ n)

/-- R223: no tick changes a parameter. -/
def Obligations.ParametersNeverChange : Prop :=
  ∀ s t : State, step s = .next t → t.params = s.params

/-! ## Rules about the whole machine -/

/-- R25, R26, R128: `RESULT_OK` and `RXDATA` change only in the last tick of a receive window or the acceptance tick of
RECEIVE or CHECK_PARITY, and CHECK_PARITY leaves `RXDATA`. That a RECEIVE accepted with the line low writes neither before its
window ends (R26) is ReceiveLastsItsWindow's. -/
def Obligations.ResultsAreWrittenOnlyByReceiveAndCheckParity : Prop :=
  ∀ s t : State, s.unspec = false → t.unspec = false → (hostPins s).rst = false → step s = .next t →
    (t.rxData ≠ s.rxData →
      (s.curOp = .rx ∧ rxLast s = true) ∨
      (s.curOp = .idle ∧ ∃ w, offered s = some w ∧ decode w = .ok .receive)) ∧
    (t.resultOk ≠ s.resultOk →
      (s.curOp = .rx ∧ rxLast s = true) ∨
      (s.curOp = .idle ∧ ∃ w, offered s = some w ∧
        (decode w = .ok .receive ∨ ∃ x, decode w = .ok (.checkParity x))))

/-- R21: without reset, `out_line` changes only in a tick of a transmit operation; a reset tick shows the OPEN reset level,
which the MODEL draws by `draws` (log 5). That a tick that raises CMD_WHILE_BUSY in a receive window still keeps the level is
the MODEL's reading too (log 10). -/
def Obligations.OutLineMovesOnlyInATransmission : Prop :=
  ∀ s t : State, s.unspec = false → step s = .next t →
    ((hostPins s).rst = true → t.outLine = Config.outResetLevel s.draws) ∧
    ((hostPins s).rst = false → t.outLine ≠ s.outLine →
      s.curOp = .tx ∨
      (s.curOp = .idle ∧ ∃ w i, offered s = some w ∧ decode w = .ok i ∧ i ≠ .receive ∧ ∀ x, i ≠ .checkParity x))

/-- R22: `in_line` is read only while a receive operation runs and in the acceptance tick of RECEIVE. In any other tick two
environments lead to the same state but for their own scripts. In the unspecified regime and in the tick that raises
CMD_WHILE_BUSY this is the MODEL's choice: its free values depend on `draws` alone (log 9, log 11). A tick in which a RECEIVE
is offered is left out, also at a busy block. -/
def Obligations.InLineIsReadOnlyByReceive : Prop :=
  (∀ (s : State) (lv : Level) (l : List Level), sample (setLine (lv :: l) s) = lv) ∧
  ∀ (s t : State) (l1 l2 : List Level), s.curOp ≠ .rx →
    (∀ w, offered s = some w → decode w ≠ .ok .receive) →
    step (setLine l1 s) = .next t → step (setLine l2 s) = .next (setLine l2.tail t)

/-- R31: no rule reads `NOW` except as a difference. Moving `NOW` and both timestamps by the same time moves the next state
by that time and changes nothing else. -/
def Obligations.NowIsReadOnlyAsADifference : Prop :=
  ∀ (d : Nat) (s t : State), s.params.clkBits = none → (hostPins s).rst = false → t.unspec = false →
    step s = .next t → step (shiftNow d s) = .next (shiftNow d t)

/-- R31: without reset `NOW` rises by 1 every tick and wraps mod `2^CLK_BITS` where `CLK_BITS` is finite, and an elapsed time
is the difference of two values of `NOW`, mod `2^CLK_BITS` there. So a wait shorter than `2^CLK_BITS` is measured right over a
wrap. -/
def Obligations.ElapsedTimeIsADifferenceOfNow : Prop :=
  (∀ s t : State, (hostPins s).rst = false → step s = .next t →
    (s.params.clkBits = none → t.now = s.now + 1) ∧
    (∀ n, s.params.clkBits = some n → t.now = (s.now + 1) % 2 ^ n)) ∧
  (∀ (p : Params) (now t : Nat), p.clkBits = none → t ≤ now → (elapsed p now t : Int) = now - t) ∧
  (∀ (p : Params) (n now t : Nat), p.clkBits = some n → (elapsed p now t : Int) = ((now : Int) - t) % 2 ^ n) ∧
  (∀ (p : Params) (n t d : Nat), p.clkBits = some n → d < 2 ^ n → elapsed p ((t + d) % 2 ^ n) (t % 2 ^ n) = d)

/-! ## Runs -/

/-- R234: a run ends at the first tick, from its start on, in which the host has no command left to offer and `BUSY` reads 0,
and shows the line up to there and the outputs in that tick. That the line of that last tick is left out is the MODEL's choice
(log 24). -/
def Obligations.RunEndsAtItsFirstIdleTick : Prop :=
  (∀ (n : Nat) (s : State) (o : Observation), observe n s = some o →
    ∃ (k : Nat) (t : State), k ≤ n ∧ Sys2Proof.core.run k s = .next t ∧
      t.host.all HostAct.quiet = true ∧ t.busy = false ∧
      (∀ (j : Nat) (u : State), j < k → Sys2Proof.core.run j s = .next u →
        u.host.all HostAct.quiet = false ∨ u.busy = true) ∧
      o.trace = lineTrace k s ∧ o.final = hostView t) ∧
  (∀ (n k : Nat) (s t : State), k ≤ n → Sys2Proof.core.run k s = .next t →
    t.host.all HostAct.quiet = true → t.busy = false → ∃ o, observe n s = some o)

/-- R205, R234: a run is a good one exactly where it ends and no tick of it, its last one too, shows `FAULT = 1`. That a
reset in mid-run does not redeem it is the MODEL's choice (log 25), and so is what counts as the end of a run where R234 leaves it
open (log 24). -/
def Obligations.GoodRunNeverShowsAFault : Prop :=
  ∀ (n : Nat) (s : State), goodRun n s = true ↔
    ∃ k : Nat, k ≤ n ∧ (∃ t, Sys2Proof.core.run k s = .next t ∧ runEnded t = true) ∧
      (∀ (j : Nat) (u : State), j < k → Sys2Proof.core.run j s = .next u → runEnded u = false) ∧
      (∀ (j : Nat) (u : State), j ≤ k → Sys2Proof.core.run j s = .next u → u.fault = false)

/-- R234, R126, R226: what the run of the program `SENDW m` shows: the pulses of the frame, and outputs as they were. That the
trace is exactly the frame's ticks, without the level of the tick that ends the run, is the MODEL's choice (log 24). -/
def Obligations.SendProgramShowsItsFrame : Prop :=
  ∀ (s : State) (m : Message) (d : Nat), accepting s = true → s.host = [offerOf (.send m), .waitIdle] →
    s.params.wellFormed = true → d = s.params.timing.bitPeriod * (frameBits m).length →
    observe d s = some {
      trace := (List.range d).map fun n =>
        sendBit s.params.timing ((frameBits m).getD (n / s.params.timing.bitPeriod) false) (n % s.params.timing.bitPeriod)
      final := { busy := false, resultOk := s.resultOk, rxData := s.rxData, fault := s.fault, faultCause := s.faultCause } }

/-! ## Frames -/

/-- R72: the frame of a message: the nibbles from the most significant nonzero one down, then the parity nibble; the zero
message is the parity nibble alone. -/
def Obligations.FrameClosedForm : Prop :=
  (frameNibbles 0#64 = [1#4] ∧ (frameBits 0#64).length = 4) ∧
  ∀ (m : Message) (n : Nat), n < 16 → nib m n ≠ 0#4 → (∀ j, n < j → j < 16 → nib m j = 0#4) →
    frameNibbles m =
      (List.range (n + 1)).reverse.map (nib m) ++
        [(List.range 17).foldr (fun i a => nib m i ^^^ a) 0#4 + 1#4] ∧
    (frameBits m).length = 4 * (n + 2) ∧ (frameBits m).length ≤ 68 ∧
    3000 * (frameBits m).length = 12000 * (n + 2)

/-- R123: the transmitted parity nibble is the XOR of all 17 nibble positions, plus one; position 16 adds nothing. -/
def Obligations.TransmittedParityIsXorOfAllNibbles : Prop :=
  ∀ m : Message,
    (frameNibbles m).getLast? = some ((List.range 17).foldr (fun i a => nib m i ^^^ a) 0#4 + 1#4) ∧
    (frameNibbles m).getLast? = some ((List.range 16).foldr (fun i a => nib m i ^^^ a) 0#4 + 1#4)

/-- R122: the bits of a frame in transmission order, each nibble's most significant bit first, and the frame's length. -/
def Obligations.FrameBitsAreInWireOrder : Prop :=
  ∀ m : Message,
    (frameBits m).length = 4 * (frameNibbles m).length ∧
    1 ≤ (frameNibbles m).length ∧ (frameNibbles m).length ≤ 17 ∧
    ∀ q j v, j < 4 → (frameNibbles m)[q]? = some v → (frameBits m)[4 * q + j]? = some (v.getLsbD (3 - j))

/-- R104, R71: the pulses of a frame are its nibbles, written one after another with no gap, under every timing. -/
def Obligations.FrameIsItsNibblesBackToBack : Prop :=
  ∀ (tm : Timing) (m : Message) (n : Nat), 1 ≤ tm.bitPeriod → n < tm.bitPeriod * (frameBits m).length →
    sendBit tm ((frameBits m).getD (n / tm.bitPeriod) false) (n % tm.bitPeriod) =
      writeNibble tm ((frameNibbles m).getD (n / (4 * tm.bitPeriod)) 0#4) (n % (4 * tm.bitPeriod))

/-- R126: one tick of the transmit engine, in a frame whose current bit is `b`. -/
def Obligations.TransmitEngineStep : Prop :=
  ∀ (s : State) (b : Bool), s.curOp = .tx → s.unspec = false → (hostPins s).rst = false → offered s = none →
    s.tx.bits[s.tx.k.toNat]? = some b →
    ∃ lv : Level, (lv = .high ↔ s.tx.phi.toNat < if b then s.params.timing.t1High else s.params.timing.t0High) ∧
    step s = .next (
      if s.tx.phi.toNat = s.params.timing.bitPeriod - 1 then
        if s.tx.k = s.tx.len - 1#7 then
          advance { s with
            outLine := lv, host := hostRest s, tx := { s.tx with phi := 0#12 }, curOp := .idle, busy := false }
        else
          advance { s with outLine := lv, host := hostRest s, tx := { s.tx with phi := 0#12, k := s.tx.k + 1#7 } }
      else advance { s with outLine := lv, host := hostRest s, tx := { s.tx with phi := s.tx.phi + 1#12 } })

/-- R103 with R126: a frame accepted in tick 0 shows `HIGH` in tick `n` exactly where the high phase of bit `n / BIT_PERIOD`
is, every bit starts one `BIT_PERIOD` (3000 ticks with the source's timing) after the one before it, and `BUSY` reads 1 until
the last tick of the frame is over. -/
def Obligations.SendDrivesItsPulseTrain : Prop :=
  ∀ (s : State) (m : Message) (n : Nat), accepting s = true → s.host = [offerOf (.send m)] →
    s.params.wellFormed = true → n < s.params.timing.bitPeriod * (frameBits m).length →
    (s.params.timing = Config.timing → s.params.timing.bitPeriod = 3000) ∧
    ∃ t : State, Sys2Proof.core.run (n + 1) s = .next t ∧
      (t.outLine = .high ↔ n % s.params.timing.bitPeriod <
        highTime s.params.timing ((frameBits m).getD (n / s.params.timing.bitPeriod) false)) ∧
      (t.busy = true ↔ n + 1 < s.params.timing.bitPeriod * (frameBits m).length)

/-- R120, R127, R128, R226: a SEND lasts `BIT_PERIOD * L` ticks, ends with the line low where every pulse has a low phase, and
changes nothing but the line, the transmit registers and the passing of time. What the transmit registers hold once the
block is idle is the MODEL's choice (log 13). -/
def Obligations.SendEndsAfterItsDuration : Prop :=
  ∀ (s : State) (m : Message) (d : Nat), accepting s = true → s.host = [offerOf (.send m)] →
    s.params.wellFormed = true → 0 < s.params.timing.t0Low → 0 < s.params.timing.t1Low →
    d = s.params.timing.bitPeriod * (frameBits m).length →
    Sys2Proof.core.run d s = .next { s with
      host := []
      line := s.line.drop d
      draws := s.draws + d
      now := (nextNow s.params)^[d] s.now
      outLine := .low
      busy := false
      curOp := .idle
      tx := { bits := frameBits m, len := BitVec.ofNat 7 (frameBits m).length
              k := BitVec.ofNat 7 ((frameBits m).length - 1), phi := 0#12 } }

/-! ## Reception -/

/-- R106: the three bands of a measured time, under every timing, and their bounds in the source's. -/
def Obligations.ClassifyBands : Prop :=
  (∀ (tm : Timing) (e : Nat), tm.rxT0Min ≤ tm.rxT0Max →
    (classify tm e = none ↔ e < tm.rxT0Min) ∧
    (classify tm e = some false ↔ tm.rxT0Min ≤ e ∧ e ≤ tm.rxT0Max) ∧
    (classify tm e = some true ↔ tm.rxT0Max < e)) ∧
  ∀ e : Nat, (classify Config.timing e = none ↔ e < 600) ∧
    (classify Config.timing e = some false ↔ 600 ≤ e ∧ e ≤ 1400) ∧ (classify Config.timing e = some true ↔ 1400 < e)

/-- R143 to R147: one tick of the receive engine, in both dead-zone modes and for both kinds of clock, with the verdict in
the last tick. -/
def Obligations.ReceiveEngineStep : Prop :=
  ∀ s : State, s.curOp = .rx → s.unspec = false → (hostPins s).rst = false → offered s = none →
    ∃ (since : Nat → Nat) (r : RxRegs),
      (∀ x, since x = match s.params.clkBits with
        | none => s.now - x
        | some n => (s.now + 2 ^ n - x % 2 ^ n) % 2 ^ n) ∧
      r = (if sample s = .high then
            if s.rx.po then s.rx
            else if s.params.deadzone = .edge ∧ s.rx.seen = true then s.rx
            else if since s.rx.tlast < s.params.timing.rxT0Min then
              if s.params.deadzone = .edge then { s.rx with seen := true } else s.rx
            else
              { s.rx with
                sr := (s.rx.sr <<< 1) ||| (if since s.rx.tlast ≤ s.params.timing.rxT0Max then 0#_ else 1#_)
                cnt := s.rx.cnt + 1
                po := true }
          else if s.rx.po then { s.rx with po := false, tlast := s.now }
          else { s.rx with seen := false }) ∧
      (since s.rx.tstart + 1 = s.params.rxWindow →
        (r.cnt ≠ 0 ∧ r.cnt % 4 = 0 ∧ checkParity r.sr = true →
          step s = .next (advance { s with
            rxData := r.sr >>> 4, resultOk := true, curOp := .idle, busy := false, host := hostRest s })) ∧
        (¬(r.cnt ≠ 0 ∧ r.cnt % 4 = 0 ∧ checkParity r.sr = true) →
          step s = .next (advance { s with
            rxData := 0#64, resultOk := false, curOp := .idle, busy := false, host := hostRest s }))) ∧
      (since s.rx.tstart + 1 ≠ s.params.rxWindow →
        step s = .next (advance { s with rx := r, host := hostRest s }))

/-- R149: the bit counter never exceeds `W div RX_T0_MIN + 1`, and with the default window and the source's timing at most 6
bits are classified. -/
def Obligations.ReceiveCounterIsBounded : Prop :=
  ∀ s : State, MachineInv s → s.unspec = false → s.curOp = .rx → s.params.clkBits = none →
    s.rx.cnt ≤ s.params.rxWindow / s.params.timing.rxT0Min + 1 ∧
    (rxSample s.params (sample s) s.now s.rx).cnt ≤ s.params.rxWindow / s.params.timing.rxT0Min + 1 ∧
    (s.params.timing = Config.timing → s.params.rxWindow = 4000 →
      (rxSample s.params (sample s) s.now s.rx).cnt ≤ 6)

/-- R226, R27, R26: a RECEIVE that finds the line low lasts exactly W ticks, whatever the environment does and whatever clock
covers the window (log 21). Until then `BUSY`
reads 1 and the results are the old ones; then the block is idle, a failure shows `RXDATA = 0`, and the line and the fault
registers are untouched. -/
def Obligations.ReceiveLastsItsWindow : Prop :=
  ∀ s : State, accepting s = true → s.host = [offerOf .receive] → sample s = .low →
    s.params.wellFormed = true →
    (∀ n, 0 < n → n < s.params.rxWindow → ∃ t : State, Sys2Proof.core.run n s = .next t ∧
      t.busy = true ∧ t.curOp = .rx ∧ t.rxData = s.rxData ∧ t.resultOk = s.resultOk ∧ t.outLine = s.outLine) ∧
    (∃ t : State, Sys2Proof.core.run s.params.rxWindow s = .next t ∧
      t.busy = false ∧ t.curOp = .idle ∧ (t.resultOk = false → t.rxData = 0#64) ∧
      t.outLine = s.outLine ∧ t.fault = s.fault ∧ t.faultCause = s.faultCause ∧ t.tx = s.tx)

/-- R22, R35: the result of a RECEIVE depends on the levels of `in_line` in its window and on nothing else of the state. -/
def Obligations.ReceiveDependsOnlyOnItsWindow : Prop :=
  ∀ s1 s2 t1 t2 : State, accepting s1 = true → accepting s2 = true →
    s1.host = [offerOf .receive] → s2.host = [offerOf .receive] →
    s1.params.wellFormed = true → s2.params.wellFormed = true → s1.params.timing = s2.params.timing →
    s1.params.rxWindow = s2.params.rxWindow → s1.params.deadzone = s2.params.deadzone →
    s1.params.rxWindow ≤ s1.line.length →
    s1.line.take s1.params.rxWindow = s2.line.take s1.params.rxWindow →
    Sys2Proof.core.run s1.params.rxWindow s1 = .next t1 → Sys2Proof.core.run s1.params.rxWindow s2 = .next t2 →
    t1.resultOk = t2.resultOk ∧ t1.rxData = t2.rxData

/-- R53, R148: a received bit enters at the least significant end of `rx_sr`. The bits of a frame, received in order,
assemble its data nibbles and its parity nibble as one big-endian number; the bits of a 68-bit frame that came first drop off
the top, and the counter counts every bit. -/
def Obligations.FrameBitsAssembleTheFrameValue : Prop :=
  (∀ (b : Bool) (r : RxRegs),
    (rxPush b r).sr.getLsbD 0 = b ∧ (∀ k, k < 63 → (rxPush b r).sr.getLsbD (k + 1) = r.sr.getLsbD k)) ∧
  ∀ m : Message, ∃ p : Nibble, (frameNibbles m).getLast? = some p ∧
    ((frameBits m).foldl (fun r b => rxPush b r) RxRegs.reset).sr = (m <<< 4) ||| p.setWidth 64 ∧
    ((frameBits m).foldl (fun r b => rxPush b r) RxRegs.reset).cnt = (frameBits m).length

/-- R157, the conditions suffice: B receives what A sends, through an inverter, where the message fits 60 bits, B starts
within the tolerance of R156 for the first bit, and B's window covers the last bit. -/
def Obligations.MessageMakesTheRoundTrip : Prop :=
  ∀ (a b : State) (m : Message) (d : Nat),
    accepting a = true → a.host = [offerOf (.send m)] →
    accepting b = true → b.host = [offerOf .receive] → b.params.wellFormed = true →
    a.params.timing = Config.timing → b.params.timing = Config.timing →
    b.line = ((lineTrace (d + b.params.rxWindow) a).drop d).map Level.flip →
    m.toNat < 2 ^ 60 →
    (((frameBits m).headD false = false ∧ d < 600 ∧ (b.params.deadzone = .edge → d = 0)) ∨
      ((frameBits m).headD false = true ∧ d < 400)) →
    3000 * ((frameBits m).length - 1) + highTime Config.timing ((frameBits m).getLastD false) < d + b.params.rxWindow →
    ∃ t : State, Sys2Proof.core.run b.params.rxWindow b = .next t ∧
      t.resultOk = true ∧ t.rxData = m ∧ t.busy = false ∧ t.fault = b.fault

/-- R228, R157 condition 1: a message whose nibble 15 is not 0 is rejected by a receiver that sees its whole frame. -/
def Obligations.TopNibbleMessagesAreRejected : Prop :=
  ∀ (a b : State) (m : Message) (d : Nat),
    accepting a = true → a.host = [offerOf (.send m)] →
    accepting b = true → b.host = [offerOf .receive] → b.params.wellFormed = true →
    a.params.timing = Config.timing → b.params.timing = Config.timing →
    b.line = ((lineTrace (d + b.params.rxWindow) a).drop d).map Level.flip →
    2 ^ 60 ≤ m.toNat →
    (((frameBits m).headD false = false ∧ d < 600 ∧ (b.params.deadzone = .edge → d = 0)) ∨
      ((frameBits m).headD false = true ∧ d < 400)) →
    3000 * ((frameBits m).length - 1) + highTime Config.timing ((frameBits m).getLastD false) < d + b.params.rxWindow →
    ∃ t : State, Sys2Proof.core.run b.params.rxWindow b = .next t ∧ t.resultOk = false ∧ t.rxData = 0#64

/-- R155: with the source's window of 4000 ticks a RECEIVE never succeeds on a frame of this transmitter, whenever it
starts. -/
def Obligations.DefaultWindowNeverReceivesAFrame : Prop :=
  ∀ (a b : State) (m : Message) (d : Nat),
    accepting a = true → a.host = [offerOf (.send m)] →
    accepting b = true → b.host = [offerOf .receive] → b.params.wellFormed = true →
    a.params.timing = Config.timing → b.params.timing = Config.timing → b.params.rxWindow = 4000 →
    b.line = ((lineTrace (d + 4000) a).drop d).map Level.flip →
    ∃ t : State, Sys2Proof.core.run 4000 b = .next t ∧ t.resultOk = false ∧ t.rxData = 0#64

/-! ## Parity and field insertion -/

/-- R152: the parity law. -/
def Obligations.ParityLaw : Prop :=
  ∀ x : Message, checkParity x = true ↔
    (x &&& 0xF#64).toNat = (((List.range 16).foldr (fun i a => nib x (i + 1) ^^^ a) 0#4).toNat + 1) % 16

/-- R153: the receiver's parity check accepts the frame value of every message below `2^60`. -/
def Obligations.ReceiverAcceptsTransmittedParity : Prop :=
  ∀ (m : Message) (p : Nibble), nib m 15 = 0#4 → (frameNibbles m).getLast? = some p →
    checkParity ((m <<< 4) ||| p.setWidth 64) = true

/-- R170: the bits of a field insertion: no mask, no clearing, bits past bit 63 lost; insertions commute. -/
def Obligations.FieldInsertionIsOrWithSpill : Prop :=
  (∀ (t : Message) (v : Nat) (off : Fin 16) (k : Nat), v < 2 ^ 64 → k < 64 →
    (ins t v off).getLsbD k = (t.getLsbD k || (decide (4 * off.val ≤ k) && v.testBit (k - 4 * off.val)))) ∧
  (∀ (t : Message) (v v' : Nat) (off off' : Fin 16), ins (ins t v off) v' off' = ins (ins t v' off') v off)

/-- R171: decimal digits; the tens digit is not reduced, so it is no decimal digit from 100 on and spills from 160 on. -/
def Obligations.TensDigitIsNotReduced : Prop :=
  ∀ v : Nat, 10 * tens v + ones v = v ∧ ones v ≤ 9 ∧ (9 < tens v ↔ 100 ≤ v) ∧ (15 < tens v ↔ 160 ≤ v)

/-- R178 with R170: a digit of at most 15 in a nibble that the template leaves 0 arrives as that nibble, and every other
nibble is as it was. -/
def Obligations.DigitArrivesAsItsOwnNibble : Prop :=
  ∀ (t : Message) (v : Nat) (off : Fin 16), nib t off.val = 0#4 → v ≤ 15 →
    (nib (ins t v off) off.val).toNat = v ∧ ∀ i, i ≠ off.val → nib (ins t v off) i = nib t i
end

