-- ==== Sys2Proof/Laws/Decode.lean ====
section
/-! SUPPORT. The two halves of a command word (R88). -/

namespace Sys2Proof

@[simp] theorem cmdOf_wordOf (cmd : BitVec 8) (arg : BitVec 64) : cmdOf (wordOf cmd arg) = cmd := by
  apply BitVec.eq_of_getLsbD_eq
  intro i hi
  simp only [cmdOf, wordOf, BitVec.getLsbD_extractLsb', BitVec.getLsbD_append]
  simp [hi]

@[simp] theorem argOf_wordOf (cmd : BitVec 8) (arg : BitVec 64) : argOf (wordOf cmd arg) = arg := by
  apply BitVec.eq_of_getLsbD_eq
  intro i hi
  simp only [argOf, wordOf, BitVec.getLsbD_extractLsb', BitVec.getLsbD_append]
  simp [hi]

@[simp] theorem wordOf_cmdOf_argOf (w : CmdWord) : wordOf (cmdOf w) (argOf w) = w := by
  apply BitVec.eq_of_getLsbD_eq
  intro i hi
  simp only [cmdOf, argOf, wordOf, BitVec.getLsbD_extractLsb', BitVec.getLsbD_append]
  by_cases h : i < 8
  · simp [h]
  · simp only [h, if_false]
    have h1 : i - 8 < 64 := by omega
    have h2 : 8 + (i - 8) = i := by omega
    simp [h1, h2]

@[simp] theorem cmdOf_encode (i : Instr) : cmdOf (encode i) = encodeCmd i := cmdOf_wordOf _ _
@[simp] theorem argOf_encode (i : Instr) : argOf (encode i) = encodeArg i := argOf_wordOf _ _

/-- The number of a command word is `ARG * 256 + CMD`. -/
theorem toNat_wordOf (cmd : BitVec 8) (arg : BitVec 64) : (wordOf cmd arg).toNat = arg.toNat * 256 + cmd.toNat := by
  have h : cmd.toNat < 2 ^ 8 := cmd.isLt
  simp only [wordOf, BitVec.toNat_append]
  rw [← Nat.shiftLeft_add_eq_or_of_lt h, Nat.shiftLeft_eq]

namespace Machine

@[simp] theorem offer_cmdValid (w : CmdWord) : (HostPins.offer w).cmdValid = true := rfl
@[simp] theorem offer_rst (w : CmdWord) : (HostPins.offer w).rst = false := rfl
@[simp] theorem wordOf_offer (w : CmdWord) : wordOf (HostPins.offer w).cmd (HostPins.offer w).arg = w :=
  wordOf_cmdOf_argOf w

end Machine
end Sys2Proof
end

