-- ==== Sys2Proof/Laws/Nibbles.lean ====
section
/-! SUPPORT. Small facts about nibbles, parity and pulses. -/

namespace Sys2Proof.Machine

/-- R8: the bits of a nibble. -/
theorem getLsbD_nib (x : Message) (i j : Nat) :
    (nib x i).getLsbD j = (decide (j < 4) && x.getLsbD (4 * i + j)) := by
  simp [nib]

/-- R8: a position past the last nibble reads as 0. -/
theorem nib_of_le {x : Message} {i : Nat} (h : 16 ≤ i) : nib x i = 0#4 := by
  apply BitVec.eq_of_getLsbD_eq
  intro j _
  rw [getLsbD_nib, BitVec.getLsbD_of_ge x (4 * i + j) (by simp; omega)]
  simp

@[simp] theorem nib_sixteen (x : Message) : nib x 16 = 0#4 := nib_of_le (Nat.le_refl 16)
@[simp] theorem nib_zero (i : Nat) : nib 0#_ i = 0#4 := by
  simp [nib]

@[simp] theorem xorNibbles_zero (x : Message) (i : Nat) : xorNibbles x i 0 = 0#4 := rfl
@[simp] theorem xorNibbles_succ (x : Message) (i n : Nat) :
    xorNibbles x i (n + 1) = nib x i ^^^ xorNibbles x (i + 1) n := rfl

/-- R121: one position of the scan. -/
theorem frameScan_succ (m : Message) (i : Nat) (acc : Nibble) (started : Bool) :
    frameScan m (i + 1) acc started =
      if (started || decide (nib m i ≠ 0#4)) = true then
        nib m i :: frameScan m i (acc ^^^ nib m i) (started || decide (nib m i ≠ 0#4))
      else frameScan m i (acc ^^^ nib m i) (started || decide (nib m i ≠ 0#4)) := rfl

@[simp] theorem frameScan_zero (m : Message) (acc : Nibble) (started : Bool) :
    frameScan m 0 acc started = [acc + 1#4] := rfl

@[simp] theorem nibbleBits_length (v : Nibble) : (nibbleBits v).length = 4 := rfl

@[simp] theorem highTime_false (tm : Timing) : highTime tm false = tm.t0High := rfl
@[simp] theorem highTime_true (tm : Timing) : highTime tm true = tm.t1High := rfl

/-- R100, R101, R126: a pulse is high for exactly its high time. -/
theorem sendBit_eq (tm : Timing) (b : Bool) (j : Nat) :
    sendBit tm b j = if j < highTime tm b then .high else .low := by
  cases b <;> rfl

theorem sendBit_eq_high_iff (tm : Timing) (b : Bool) (j : Nat) : sendBit tm b j = .high ↔ j < highTime tm b := by
  rw [sendBit_eq]; split <;> simp_all

end Sys2Proof.Machine
end

