-- ==== Sys2Proof/Laws/State.lean ====
section
/-! SUPPORT. For each named update of State, what every field is after it. True by rfl, in the simp set. -/

namespace Sys2Proof.Machine

/-! `drive` -/

@[simp] theorem drive_params (lv : Level) (s : State) : (drive lv s).params = s.params := rfl
@[simp] theorem drive_host (lv : Level) (s : State) : (drive lv s).host = s.host := rfl
@[simp] theorem drive_line (lv : Level) (s : State) : (drive lv s).line = s.line := rfl
@[simp] theorem drive_draws (lv : Level) (s : State) : (drive lv s).draws = s.draws := rfl
@[simp] theorem drive_unspec (lv : Level) (s : State) : (drive lv s).unspec = s.unspec := rfl
@[simp] theorem drive_now (lv : Level) (s : State) : (drive lv s).now = s.now := rfl
@[simp] theorem drive_outLine (lv : Level) (s : State) : (drive lv s).outLine = lv := rfl
@[simp] theorem drive_busy (lv : Level) (s : State) : (drive lv s).busy = s.busy := rfl
@[simp] theorem drive_curOp (lv : Level) (s : State) : (drive lv s).curOp = s.curOp := rfl
@[simp] theorem drive_resultOk (lv : Level) (s : State) : (drive lv s).resultOk = s.resultOk := rfl
@[simp] theorem drive_rxData (lv : Level) (s : State) : (drive lv s).rxData = s.rxData := rfl
@[simp] theorem drive_fault (lv : Level) (s : State) : (drive lv s).fault = s.fault := rfl
@[simp] theorem drive_faultCause (lv : Level) (s : State) : (drive lv s).faultCause = s.faultCause := rfl
@[simp] theorem drive_tx (lv : Level) (s : State) : (drive lv s).tx = s.tx := rfl
@[simp] theorem drive_rx (lv : Level) (s : State) : (drive lv s).rx = s.rx := rfl

/-! `complete` -/

@[simp] theorem complete_params (s : State) : (complete s).params = s.params := rfl
@[simp] theorem complete_host (s : State) : (complete s).host = s.host := rfl
@[simp] theorem complete_line (s : State) : (complete s).line = s.line := rfl
@[simp] theorem complete_draws (s : State) : (complete s).draws = s.draws := rfl
@[simp] theorem complete_unspec (s : State) : (complete s).unspec = s.unspec := rfl
@[simp] theorem complete_now (s : State) : (complete s).now = s.now := rfl
@[simp] theorem complete_outLine (s : State) : (complete s).outLine = s.outLine := rfl
@[simp] theorem complete_busy (s : State) : (complete s).busy = false := rfl
@[simp] theorem complete_curOp (s : State) : (complete s).curOp = .idle := rfl
@[simp] theorem complete_resultOk (s : State) : (complete s).resultOk = s.resultOk := rfl
@[simp] theorem complete_rxData (s : State) : (complete s).rxData = s.rxData := rfl
@[simp] theorem complete_fault (s : State) : (complete s).fault = s.fault := rfl
@[simp] theorem complete_faultCause (s : State) : (complete s).faultCause = s.faultCause := rfl
@[simp] theorem complete_tx (s : State) : (complete s).tx = s.tx := rfl
@[simp] theorem complete_rx (s : State) : (complete s).rx = s.rx := rfl

/-! `startTx` -/

@[simp] theorem startTx_params (m : Message) (s : State) : (startTx m s).params = s.params := rfl
@[simp] theorem startTx_host (m : Message) (s : State) : (startTx m s).host = s.host := rfl
@[simp] theorem startTx_line (m : Message) (s : State) : (startTx m s).line = s.line := rfl
@[simp] theorem startTx_draws (m : Message) (s : State) : (startTx m s).draws = s.draws := rfl
@[simp] theorem startTx_unspec (m : Message) (s : State) : (startTx m s).unspec = s.unspec := rfl
@[simp] theorem startTx_now (m : Message) (s : State) : (startTx m s).now = s.now := rfl
@[simp] theorem startTx_outLine (m : Message) (s : State) : (startTx m s).outLine = s.outLine := rfl
@[simp] theorem startTx_busy (m : Message) (s : State) : (startTx m s).busy = true := rfl
@[simp] theorem startTx_curOp (m : Message) (s : State) : (startTx m s).curOp = .tx := rfl
@[simp] theorem startTx_resultOk (m : Message) (s : State) : (startTx m s).resultOk = s.resultOk := rfl
@[simp] theorem startTx_rxData (m : Message) (s : State) : (startTx m s).rxData = s.rxData := rfl
@[simp] theorem startTx_fault (m : Message) (s : State) : (startTx m s).fault = s.fault := rfl
@[simp] theorem startTx_faultCause (m : Message) (s : State) : (startTx m s).faultCause = s.faultCause := rfl
@[simp] theorem startTx_tx (m : Message) (s : State) : (startTx m s).tx = { bits := frameBits m, len := BitVec.ofNat 7 (frameBits m).length, k := 0#7, phi := 0#12 } := rfl
@[simp] theorem startTx_rx (m : Message) (s : State) : (startTx m s).rx = s.rx := rfl

/-! `startRx` -/

@[simp] theorem startRx_params (s : State) : (startRx s).params = s.params := rfl
@[simp] theorem startRx_host (s : State) : (startRx s).host = s.host := rfl
@[simp] theorem startRx_line (s : State) : (startRx s).line = s.line := rfl
@[simp] theorem startRx_draws (s : State) : (startRx s).draws = s.draws := rfl
@[simp] theorem startRx_unspec (s : State) : (startRx s).unspec = s.unspec := rfl
@[simp] theorem startRx_now (s : State) : (startRx s).now = s.now := rfl
@[simp] theorem startRx_outLine (s : State) : (startRx s).outLine = s.outLine := rfl
@[simp] theorem startRx_busy (s : State) : (startRx s).busy = true := rfl
@[simp] theorem startRx_curOp (s : State) : (startRx s).curOp = .rx := rfl
@[simp] theorem startRx_resultOk (s : State) : (startRx s).resultOk = s.resultOk := rfl
@[simp] theorem startRx_rxData (s : State) : (startRx s).rxData = s.rxData := rfl
@[simp] theorem startRx_fault (s : State) : (startRx s).fault = s.fault := rfl
@[simp] theorem startRx_faultCause (s : State) : (startRx s).faultCause = s.faultCause := rfl
@[simp] theorem startRx_tx (s : State) : (startRx s).tx = s.tx := rfl
@[simp] theorem startRx_rx (s : State) : (startRx s).rx = { sr := 0#_, cnt := 0, po := false, tstart := s.now, tlast := s.now, seen := false } := rfl

/-! `finishRx` -/

@[simp] theorem finishRx_params (ok : Bool) (sr : Message) (s : State) : (finishRx ok sr s).params = s.params := rfl
@[simp] theorem finishRx_host (ok : Bool) (sr : Message) (s : State) : (finishRx ok sr s).host = s.host := rfl
@[simp] theorem finishRx_line (ok : Bool) (sr : Message) (s : State) : (finishRx ok sr s).line = s.line := rfl
@[simp] theorem finishRx_draws (ok : Bool) (sr : Message) (s : State) : (finishRx ok sr s).draws = s.draws := rfl
@[simp] theorem finishRx_unspec (ok : Bool) (sr : Message) (s : State) : (finishRx ok sr s).unspec = s.unspec := rfl
@[simp] theorem finishRx_now (ok : Bool) (sr : Message) (s : State) : (finishRx ok sr s).now = s.now := rfl
@[simp] theorem finishRx_outLine (ok : Bool) (sr : Message) (s : State) : (finishRx ok sr s).outLine = s.outLine := rfl
@[simp] theorem finishRx_busy (ok : Bool) (sr : Message) (s : State) : (finishRx ok sr s).busy = false := rfl
@[simp] theorem finishRx_curOp (ok : Bool) (sr : Message) (s : State) : (finishRx ok sr s).curOp = .idle := rfl
@[simp] theorem finishRx_resultOk (ok : Bool) (sr : Message) (s : State) : (finishRx ok sr s).resultOk = ok := rfl
@[simp] theorem finishRx_rxData (ok : Bool) (sr : Message) (s : State) : (finishRx ok sr s).rxData = if ok then sr >>> 4 else 0#_ := rfl
@[simp] theorem finishRx_fault (ok : Bool) (sr : Message) (s : State) : (finishRx ok sr s).fault = s.fault := rfl
@[simp] theorem finishRx_faultCause (ok : Bool) (sr : Message) (s : State) : (finishRx ok sr s).faultCause = s.faultCause := rfl
@[simp] theorem finishRx_tx (ok : Bool) (sr : Message) (s : State) : (finishRx ok sr s).tx = s.tx := rfl
@[simp] theorem finishRx_rx (ok : Bool) (sr : Message) (s : State) : (finishRx ok sr s).rx = s.rx := rfl

/-! `advance` -/

@[simp] theorem advance_params (s : State) : (advance s).params = s.params := rfl
@[simp] theorem advance_host (s : State) : (advance s).host = s.host := rfl
@[simp] theorem advance_line (s : State) : (advance s).line = s.line.tail := rfl
@[simp] theorem advance_draws (s : State) : (advance s).draws = s.draws + 1 := rfl
@[simp] theorem advance_unspec (s : State) : (advance s).unspec = s.unspec := rfl
@[simp] theorem advance_now (s : State) : (advance s).now = nextNow s.params s.now := rfl
@[simp] theorem advance_outLine (s : State) : (advance s).outLine = s.outLine := rfl
@[simp] theorem advance_busy (s : State) : (advance s).busy = s.busy := rfl
@[simp] theorem advance_curOp (s : State) : (advance s).curOp = s.curOp := rfl
@[simp] theorem advance_resultOk (s : State) : (advance s).resultOk = s.resultOk := rfl
@[simp] theorem advance_rxData (s : State) : (advance s).rxData = s.rxData := rfl
@[simp] theorem advance_fault (s : State) : (advance s).fault = s.fault := rfl
@[simp] theorem advance_faultCause (s : State) : (advance s).faultCause = s.faultCause := rfl
@[simp] theorem advance_tx (s : State) : (advance s).tx = s.tx := rfl
@[simp] theorem advance_rx (s : State) : (advance s).rx = s.rx := rfl

/-! `scramble` -/

@[simp] theorem scramble_params (s : State) : (scramble s).params = s.params := rfl
@[simp] theorem scramble_host (s : State) : (scramble s).host = s.host := rfl
@[simp] theorem scramble_line (s : State) : (scramble s).line = s.line := rfl
@[simp] theorem scramble_draws (s : State) : (scramble s).draws = s.draws := rfl
@[simp] theorem scramble_unspec (s : State) : (scramble s).unspec = s.unspec := rfl
@[simp] theorem scramble_now (s : State) : (scramble s).now = s.now := rfl
@[simp] theorem scramble_outLine (s : State) : (scramble s).outLine = s.outLine := rfl
@[simp] theorem scramble_busy (s : State) : (scramble s).busy = Config.unspecBusy s.draws := rfl
@[simp] theorem scramble_curOp (s : State) : (scramble s).curOp = Config.unspecCurOp s.draws := rfl
@[simp] theorem scramble_resultOk (s : State) : (scramble s).resultOk = Config.unspecResultOk s.draws := rfl
@[simp] theorem scramble_rxData (s : State) : (scramble s).rxData = Config.unspecRxData s.draws := rfl
@[simp] theorem scramble_fault (s : State) : (scramble s).fault = s.fault := rfl
@[simp] theorem scramble_faultCause (s : State) : (scramble s).faultCause = s.faultCause := rfl

/-! `resetTick` -/

@[simp] theorem resetTick_params (s : State) : (resetTick s).params = s.params := rfl
@[simp] theorem resetTick_host (s : State) : (resetTick s).host = hostRest s := rfl
@[simp] theorem resetTick_line (s : State) : (resetTick s).line = s.line.tail := rfl
@[simp] theorem resetTick_draws (s : State) : (resetTick s).draws = s.draws + 1 := rfl
@[simp] theorem resetTick_unspec (s : State) : (resetTick s).unspec = false := rfl
@[simp] theorem resetTick_now (s : State) : (resetTick s).now = 0 := rfl
@[simp] theorem resetTick_outLine (s : State) : (resetTick s).outLine = Config.outResetLevel s.draws := rfl
@[simp] theorem resetTick_busy (s : State) : (resetTick s).busy = false := rfl
@[simp] theorem resetTick_curOp (s : State) : (resetTick s).curOp = .idle := rfl
@[simp] theorem resetTick_resultOk (s : State) : (resetTick s).resultOk = false := rfl
@[simp] theorem resetTick_rxData (s : State) : (resetTick s).rxData = 0#_ := rfl
@[simp] theorem resetTick_fault (s : State) : (resetTick s).fault = false := rfl
@[simp] theorem resetTick_faultCause (s : State) : (resetTick s).faultCause = 0#2 := rfl
@[simp] theorem resetTick_tx (s : State) : (resetTick s).tx = TxRegs.reset := rfl
@[simp] theorem resetTick_rx (s : State) : (resetTick s).rx = RxRegs.reset := rfl

/-! `setTx` -/

@[simp] theorem setTx_params (r : TxRegs) (s : State) : (setTx r s).params = s.params := rfl
@[simp] theorem setTx_host (r : TxRegs) (s : State) : (setTx r s).host = s.host := rfl
@[simp] theorem setTx_line (r : TxRegs) (s : State) : (setTx r s).line = s.line := rfl
@[simp] theorem setTx_draws (r : TxRegs) (s : State) : (setTx r s).draws = s.draws := rfl
@[simp] theorem setTx_unspec (r : TxRegs) (s : State) : (setTx r s).unspec = s.unspec := rfl
@[simp] theorem setTx_now (r : TxRegs) (s : State) : (setTx r s).now = s.now := rfl
@[simp] theorem setTx_outLine (r : TxRegs) (s : State) : (setTx r s).outLine = s.outLine := rfl
@[simp] theorem setTx_busy (r : TxRegs) (s : State) : (setTx r s).busy = s.busy := rfl
@[simp] theorem setTx_curOp (r : TxRegs) (s : State) : (setTx r s).curOp = s.curOp := rfl
@[simp] theorem setTx_resultOk (r : TxRegs) (s : State) : (setTx r s).resultOk = s.resultOk := rfl
@[simp] theorem setTx_rxData (r : TxRegs) (s : State) : (setTx r s).rxData = s.rxData := rfl
@[simp] theorem setTx_fault (r : TxRegs) (s : State) : (setTx r s).fault = s.fault := rfl
@[simp] theorem setTx_faultCause (r : TxRegs) (s : State) : (setTx r s).faultCause = s.faultCause := rfl
@[simp] theorem setTx_tx (r : TxRegs) (s : State) : (setTx r s).tx = r := rfl
@[simp] theorem setTx_rx (r : TxRegs) (s : State) : (setTx r s).rx = s.rx := rfl

/-! `setRx` -/

@[simp] theorem setRx_params (r : RxRegs) (s : State) : (setRx r s).params = s.params := rfl
@[simp] theorem setRx_host (r : RxRegs) (s : State) : (setRx r s).host = s.host := rfl
@[simp] theorem setRx_line (r : RxRegs) (s : State) : (setRx r s).line = s.line := rfl
@[simp] theorem setRx_draws (r : RxRegs) (s : State) : (setRx r s).draws = s.draws := rfl
@[simp] theorem setRx_unspec (r : RxRegs) (s : State) : (setRx r s).unspec = s.unspec := rfl
@[simp] theorem setRx_now (r : RxRegs) (s : State) : (setRx r s).now = s.now := rfl
@[simp] theorem setRx_outLine (r : RxRegs) (s : State) : (setRx r s).outLine = s.outLine := rfl
@[simp] theorem setRx_busy (r : RxRegs) (s : State) : (setRx r s).busy = s.busy := rfl
@[simp] theorem setRx_curOp (r : RxRegs) (s : State) : (setRx r s).curOp = s.curOp := rfl
@[simp] theorem setRx_resultOk (r : RxRegs) (s : State) : (setRx r s).resultOk = s.resultOk := rfl
@[simp] theorem setRx_rxData (r : RxRegs) (s : State) : (setRx r s).rxData = s.rxData := rfl
@[simp] theorem setRx_fault (r : RxRegs) (s : State) : (setRx r s).fault = s.fault := rfl
@[simp] theorem setRx_faultCause (r : RxRegs) (s : State) : (setRx r s).faultCause = s.faultCause := rfl
@[simp] theorem setRx_tx (r : RxRegs) (s : State) : (setRx r s).tx = s.tx := rfl
@[simp] theorem setRx_rx (r : RxRegs) (s : State) : (setRx r s).rx = r := rfl

/-! `setHost` -/

@[simp] theorem setHost_params (acts : List HostAct) (s : State) : (setHost acts s).params = s.params := rfl
@[simp] theorem setHost_host (acts : List HostAct) (s : State) : (setHost acts s).host = acts := rfl
@[simp] theorem setHost_line (acts : List HostAct) (s : State) : (setHost acts s).line = s.line := rfl
@[simp] theorem setHost_draws (acts : List HostAct) (s : State) : (setHost acts s).draws = s.draws := rfl
@[simp] theorem setHost_unspec (acts : List HostAct) (s : State) : (setHost acts s).unspec = s.unspec := rfl
@[simp] theorem setHost_now (acts : List HostAct) (s : State) : (setHost acts s).now = s.now := rfl
@[simp] theorem setHost_outLine (acts : List HostAct) (s : State) : (setHost acts s).outLine = s.outLine := rfl
@[simp] theorem setHost_busy (acts : List HostAct) (s : State) : (setHost acts s).busy = s.busy := rfl
@[simp] theorem setHost_curOp (acts : List HostAct) (s : State) : (setHost acts s).curOp = s.curOp := rfl
@[simp] theorem setHost_resultOk (acts : List HostAct) (s : State) : (setHost acts s).resultOk = s.resultOk := rfl
@[simp] theorem setHost_rxData (acts : List HostAct) (s : State) : (setHost acts s).rxData = s.rxData := rfl
@[simp] theorem setHost_fault (acts : List HostAct) (s : State) : (setHost acts s).fault = s.fault := rfl
@[simp] theorem setHost_faultCause (acts : List HostAct) (s : State) : (setHost acts s).faultCause = s.faultCause := rfl
@[simp] theorem setHost_tx (acts : List HostAct) (s : State) : (setHost acts s).tx = s.tx := rfl
@[simp] theorem setHost_rx (acts : List HostAct) (s : State) : (setHost acts s).rx = s.rx := rfl

/-! `setLine` -/

@[simp] theorem setLine_params (ls : List Level) (s : State) : (setLine ls s).params = s.params := rfl
@[simp] theorem setLine_host (ls : List Level) (s : State) : (setLine ls s).host = s.host := rfl
@[simp] theorem setLine_line (ls : List Level) (s : State) : (setLine ls s).line = ls := rfl
@[simp] theorem setLine_draws (ls : List Level) (s : State) : (setLine ls s).draws = s.draws := rfl
@[simp] theorem setLine_unspec (ls : List Level) (s : State) : (setLine ls s).unspec = s.unspec := rfl
@[simp] theorem setLine_now (ls : List Level) (s : State) : (setLine ls s).now = s.now := rfl
@[simp] theorem setLine_outLine (ls : List Level) (s : State) : (setLine ls s).outLine = s.outLine := rfl
@[simp] theorem setLine_busy (ls : List Level) (s : State) : (setLine ls s).busy = s.busy := rfl
@[simp] theorem setLine_curOp (ls : List Level) (s : State) : (setLine ls s).curOp = s.curOp := rfl
@[simp] theorem setLine_resultOk (ls : List Level) (s : State) : (setLine ls s).resultOk = s.resultOk := rfl
@[simp] theorem setLine_rxData (ls : List Level) (s : State) : (setLine ls s).rxData = s.rxData := rfl
@[simp] theorem setLine_fault (ls : List Level) (s : State) : (setLine ls s).fault = s.fault := rfl
@[simp] theorem setLine_faultCause (ls : List Level) (s : State) : (setLine ls s).faultCause = s.faultCause := rfl
@[simp] theorem setLine_tx (ls : List Level) (s : State) : (setLine ls s).tx = s.tx := rfl
@[simp] theorem setLine_rx (ls : List Level) (s : State) : (setLine ls s).rx = s.rx := rfl

/-! `cmdWhileBusy` and `recordFault` -/

@[simp] theorem recordFault_params (c : BitVec 2) (s : State) : (recordFault c s).params = s.params := by
  unfold recordFault; split <;> rfl
@[simp] theorem recordFault_host (c : BitVec 2) (s : State) : (recordFault c s).host = s.host := by
  unfold recordFault; split <;> rfl
@[simp] theorem recordFault_line (c : BitVec 2) (s : State) : (recordFault c s).line = s.line := by
  unfold recordFault; split <;> rfl
@[simp] theorem recordFault_draws (c : BitVec 2) (s : State) : (recordFault c s).draws = s.draws := by
  unfold recordFault; split <;> rfl
@[simp] theorem recordFault_unspec (c : BitVec 2) (s : State) : (recordFault c s).unspec = s.unspec := by
  unfold recordFault; split <;> rfl
@[simp] theorem recordFault_now (c : BitVec 2) (s : State) : (recordFault c s).now = s.now := by
  unfold recordFault; split <;> rfl
@[simp] theorem recordFault_outLine (c : BitVec 2) (s : State) : (recordFault c s).outLine = s.outLine := by
  unfold recordFault; split <;> rfl
@[simp] theorem recordFault_busy (c : BitVec 2) (s : State) : (recordFault c s).busy = s.busy := by
  unfold recordFault; split <;> rfl
@[simp] theorem recordFault_curOp (c : BitVec 2) (s : State) : (recordFault c s).curOp = s.curOp := by
  unfold recordFault; split <;> rfl
@[simp] theorem recordFault_resultOk (c : BitVec 2) (s : State) : (recordFault c s).resultOk = s.resultOk := by
  unfold recordFault; split <;> rfl
@[simp] theorem recordFault_rxData (c : BitVec 2) (s : State) : (recordFault c s).rxData = s.rxData := by
  unfold recordFault; split <;> rfl
@[simp] theorem recordFault_tx (c : BitVec 2) (s : State) : (recordFault c s).tx = s.tx := by
  unfold recordFault; split <;> rfl
@[simp] theorem recordFault_rx (c : BitVec 2) (s : State) : (recordFault c s).rx = s.rx := by
  unfold recordFault; split <;> rfl
@[simp] theorem recordFault_fault (c : BitVec 2) (s : State) : (recordFault c s).fault = true := by
  unfold recordFault; split <;> simp_all
@[simp] theorem recordFault_faultCause (c : BitVec 2) (s : State) :
    (recordFault c s).faultCause = if s.fault then s.faultCause else c := by
  unfold recordFault; split <;> simp_all

@[simp] theorem cmdWhileBusy_params (s : State) : (cmdWhileBusy s).params = s.params := recordFault_params causeCmdWhileBusy s
@[simp] theorem cmdWhileBusy_host (s : State) : (cmdWhileBusy s).host = s.host := recordFault_host causeCmdWhileBusy s
@[simp] theorem cmdWhileBusy_line (s : State) : (cmdWhileBusy s).line = s.line := recordFault_line causeCmdWhileBusy s
@[simp] theorem cmdWhileBusy_draws (s : State) : (cmdWhileBusy s).draws = s.draws := recordFault_draws causeCmdWhileBusy s
@[simp] theorem cmdWhileBusy_now (s : State) : (cmdWhileBusy s).now = s.now := recordFault_now causeCmdWhileBusy s
@[simp] theorem cmdWhileBusy_outLine (s : State) : (cmdWhileBusy s).outLine = s.outLine := recordFault_outLine causeCmdWhileBusy s
@[simp] theorem cmdWhileBusy_busy (s : State) : (cmdWhileBusy s).busy = s.busy := recordFault_busy causeCmdWhileBusy s
@[simp] theorem cmdWhileBusy_curOp (s : State) : (cmdWhileBusy s).curOp = s.curOp := recordFault_curOp causeCmdWhileBusy s
@[simp] theorem cmdWhileBusy_resultOk (s : State) : (cmdWhileBusy s).resultOk = s.resultOk := recordFault_resultOk causeCmdWhileBusy s
@[simp] theorem cmdWhileBusy_rxData (s : State) : (cmdWhileBusy s).rxData = s.rxData := recordFault_rxData causeCmdWhileBusy s
@[simp] theorem cmdWhileBusy_tx (s : State) : (cmdWhileBusy s).tx = s.tx := recordFault_tx causeCmdWhileBusy s
@[simp] theorem cmdWhileBusy_rx (s : State) : (cmdWhileBusy s).rx = s.rx := recordFault_rx causeCmdWhileBusy s
@[simp] theorem cmdWhileBusy_unspec (s : State) : (cmdWhileBusy s).unspec = true := rfl
@[simp] theorem cmdWhileBusy_fault (s : State) : (cmdWhileBusy s).fault = true := recordFault_fault causeCmdWhileBusy s
@[simp] theorem cmdWhileBusy_faultCause (s : State) :
    (cmdWhileBusy s).faultCause = if s.fault then s.faultCause else causeCmdWhileBusy :=
  recordFault_faultCause causeCmdWhileBusy s

/-! What the engines leave alone -/

@[simp] theorem txTick_params (s : State) : (txTick s).params = s.params := by
  unfold txTick; dsimp only; split <;> (try split) <;> rfl
@[simp] theorem txTick_host (s : State) : (txTick s).host = s.host := by
  unfold txTick; dsimp only; split <;> (try split) <;> rfl
@[simp] theorem txTick_line (s : State) : (txTick s).line = s.line := by
  unfold txTick; dsimp only; split <;> (try split) <;> rfl
@[simp] theorem txTick_draws (s : State) : (txTick s).draws = s.draws := by
  unfold txTick; dsimp only; split <;> (try split) <;> rfl
@[simp] theorem txTick_unspec (s : State) : (txTick s).unspec = s.unspec := by
  unfold txTick; dsimp only; split <;> (try split) <;> rfl
@[simp] theorem txTick_now (s : State) : (txTick s).now = s.now := by
  unfold txTick; dsimp only; split <;> (try split) <;> rfl
@[simp] theorem txTick_resultOk (s : State) : (txTick s).resultOk = s.resultOk := by
  unfold txTick; dsimp only; split <;> (try split) <;> rfl
@[simp] theorem txTick_rxData (s : State) : (txTick s).rxData = s.rxData := by
  unfold txTick; dsimp only; split <;> (try split) <;> rfl
@[simp] theorem txTick_fault (s : State) : (txTick s).fault = s.fault := by
  unfold txTick; dsimp only; split <;> (try split) <;> rfl
@[simp] theorem txTick_faultCause (s : State) : (txTick s).faultCause = s.faultCause := by
  unfold txTick; dsimp only; split <;> (try split) <;> rfl
@[simp] theorem txTick_rx (s : State) : (txTick s).rx = s.rx := by
  unfold txTick; dsimp only; split <;> (try split) <;> rfl
@[simp] theorem rxTick_params (s : State) : (rxTick s).params = s.params := by
  unfold rxTick; dsimp only; split <;> rfl
@[simp] theorem rxTick_host (s : State) : (rxTick s).host = s.host := by
  unfold rxTick; dsimp only; split <;> rfl
@[simp] theorem rxTick_line (s : State) : (rxTick s).line = s.line := by
  unfold rxTick; dsimp only; split <;> rfl
@[simp] theorem rxTick_draws (s : State) : (rxTick s).draws = s.draws := by
  unfold rxTick; dsimp only; split <;> rfl
@[simp] theorem rxTick_unspec (s : State) : (rxTick s).unspec = s.unspec := by
  unfold rxTick; dsimp only; split <;> rfl
@[simp] theorem rxTick_now (s : State) : (rxTick s).now = s.now := by
  unfold rxTick; dsimp only; split <;> rfl
@[simp] theorem rxTick_outLine (s : State) : (rxTick s).outLine = s.outLine := by
  unfold rxTick; dsimp only; split <;> rfl
@[simp] theorem rxTick_fault (s : State) : (rxTick s).fault = s.fault := by
  unfold rxTick; dsimp only; split <;> rfl
@[simp] theorem rxTick_faultCause (s : State) : (rxTick s).faultCause = s.faultCause := by
  unfold rxTick; dsimp only; split <;> rfl
@[simp] theorem rxTick_tx (s : State) : (rxTick s).tx = s.tx := by
  unfold rxTick; dsimp only; split <;> rfl

@[simp] theorem txTick_outLine (s : State) : (txTick s).outLine = sendBit s.params.timing (txBit s) s.tx.phi.toNat := by
  unfold txTick; dsimp only; split <;> (try split) <;> rfl

@[simp] theorem engine_params (s : State) : (engine s).params = s.params := by
  unfold engine; split <;> simp
@[simp] theorem engineOrUnspec_params (u : Bool) (s : State) : (engineOrUnspec u s).params = s.params := by
  unfold engineOrUnspec; split <;> simp
@[simp] theorem engine_host (s : State) : (engine s).host = s.host := by
  unfold engine; split <;> simp
@[simp] theorem engineOrUnspec_host (u : Bool) (s : State) : (engineOrUnspec u s).host = s.host := by
  unfold engineOrUnspec; split <;> simp
@[simp] theorem engine_line (s : State) : (engine s).line = s.line := by
  unfold engine; split <;> simp
@[simp] theorem engineOrUnspec_line (u : Bool) (s : State) : (engineOrUnspec u s).line = s.line := by
  unfold engineOrUnspec; split <;> simp
@[simp] theorem engine_draws (s : State) : (engine s).draws = s.draws := by
  unfold engine; split <;> simp
@[simp] theorem engineOrUnspec_draws (u : Bool) (s : State) : (engineOrUnspec u s).draws = s.draws := by
  unfold engineOrUnspec; split <;> simp
@[simp] theorem engine_unspec (s : State) : (engine s).unspec = s.unspec := by
  unfold engine; split <;> simp
@[simp] theorem engineOrUnspec_unspec (u : Bool) (s : State) : (engineOrUnspec u s).unspec = s.unspec := by
  unfold engineOrUnspec; split <;> simp
@[simp] theorem engine_now (s : State) : (engine s).now = s.now := by
  unfold engine; split <;> simp
@[simp] theorem engineOrUnspec_now (u : Bool) (s : State) : (engineOrUnspec u s).now = s.now := by
  unfold engineOrUnspec; split <;> simp
@[simp] theorem engine_fault (s : State) : (engine s).fault = s.fault := by
  unfold engine; split <;> simp
@[simp] theorem engineOrUnspec_fault (u : Bool) (s : State) : (engineOrUnspec u s).fault = s.fault := by
  unfold engineOrUnspec; split <;> simp
@[simp] theorem engine_faultCause (s : State) : (engine s).faultCause = s.faultCause := by
  unfold engine; split <;> simp
@[simp] theorem engineOrUnspec_faultCause (u : Bool) (s : State) : (engineOrUnspec u s).faultCause = s.faultCause := by
  unfold engineOrUnspec; split <;> simp

end Sys2Proof.Machine
end

