-- ==== Sys2Proof/Laws/Ops.lean ====
section
/-! SUPPORT. For each shared operation, what it can do, said once. -/

namespace Sys2Proof.Machine

/-! Acceptance -/

theorem accepting_iff (s : State) : accepting s = true ↔ s.unspec = false ∧ s.curOp = .idle := by
  simp [accepting]

theorem accepting_eq_false_iff (s : State) : accepting s = false ↔ s.unspec = true ∨ s.curOp ≠ .idle := by
  cases h : s.unspec <;> simp [accepting, h]

theorem offer_of_accepting {s : State} (h : accepting s = true) (a : State) : offer s a = .next a := by
  simp [offer, h]

theorem offer_of_not_accepting {s : State} (h : accepting s = false) (a : State) :
    offer s a = .next (cmdWhileBusy s) := by
  simp [offer, h]

/-- All that offering a command can do. -/
theorem offer_cases {s a t : State} (h : offer s a = .next t) :
    (accepting s = true ∧ t = a) ∨ (accepting s = false ∧ t = cmdWhileBusy s) := by
  cases ha : accepting s
  · rw [offer_of_not_accepting ha] at h; cases h; exact .inr ⟨rfl, rfl⟩
  · rw [offer_of_accepting ha] at h; cases h; exact .inl ⟨rfl, rfl⟩

/-- All that recording a fault can do. -/
theorem recordFault_cases (c : BitVec 2) (s : State) :
    (s.fault = true ∧ recordFault c s = s) ∨
      (s.fault = false ∧ recordFault c s = { s with fault := true, faultCause := c }) := by
  cases h : s.fault <;> simp [recordFault, h]

/-- All that a reserved command can do. -/
theorem rejectReserved_cases (s : State) :
    (accepting s = true ∧ rejectReserved s = recordFault causeIllegalCmd s) ∨
      (accepting s = false ∧ rejectReserved s = cmdWhileBusy s) := by
  cases h : accepting s <;> simp [rejectReserved, h, illegalCmd]

/-- The state in which the acceptance of a command leaves the command phase. -/
def acceptedState (i : Instr) (s : State) : State :=
  match i with
  | .send m => startTx m s
  | .receive => if sample s = .high then finishRx false 0#_ s else startRx s
  | .sendPlayingTrack track secs => startTx (composePlay s.params track secs) s
  | .sendChangedCd cd track => startTx (composeChanged s.params cd track) s
  | .sendCdStatus cd => startTx (composeStatus s.params cd) s
  | .checkParity x => complete { s with resultOk := checkParity x }

theorem exec_eq_offer (i : Instr) (s : State) : exec i s = offer s (acceptedState i s) := by
  cases i <;> rfl

/-- All that a command can do in its command phase. -/
theorem exec_cases {i : Instr} {s t : State} (h : exec i s = .next t) :
    (accepting s = true ∧ t = acceptedState i s) ∨ (accepting s = false ∧ t = cmdWhileBusy s) :=
  offer_cases (exec_eq_offer i s ▸ h)

theorem exec_answers_next (i : Instr) (s : State) : ∃ t, exec i s = .next t :=
  ⟨_, exec_eq_offer i s⟩

/-! The host -/

@[simp] theorem hostTick_nil (b : Bool) : hostTick b [] = (HostPins.silent, []) := rfl
@[simp] theorem hostTick_pins (b : Bool) (p : HostPins) (acts : List HostAct) :
    hostTick b (.pins p :: acts) = (p, acts) := rfl
@[simp] theorem hostTick_waitIdle_busy (acts : List HostAct) :
    hostTick true (.waitIdle :: acts) = (HostPins.silent, .waitIdle :: acts) := rfl
@[simp] theorem hostTick_waitIdle_idle (acts : List HostAct) :
    hostTick false (.waitIdle :: acts) = hostTick false acts := rfl
@[simp] theorem hostTick_delay_zero (b : Bool) (acts : List HostAct) :
    hostTick b (.delay 0 :: acts) = hostTick b acts := rfl
@[simp] theorem hostTick_delay_succ (b : Bool) (n : Nat) (acts : List HostAct) :
    hostTick b (.delay (n + 1) :: acts) = (HostPins.silent, .delay n :: acts) := rfl

@[simp] theorem silent_rst : HostPins.silent.rst = false := rfl
@[simp] theorem silent_cmdValid : HostPins.silent.cmdValid = false := rfl

theorem hostPins_of_host {s : State} {acts : List HostAct} (h : s.host = acts) :
    hostPins s = (hostTick s.busy acts).1 := by rw [hostPins, h]

theorem hostRest_of_host {s : State} {acts : List HostAct} (h : s.host = acts) :
    hostRest s = (hostTick s.busy acts).2 := by rw [hostRest, h]

theorem offered_of_not_valid {s : State} (h : (hostPins s).cmdValid = false) : offered s = none := by
  simp [offered, h]

/-- The block is offered the word that the head of the host's script offers. -/
theorem offered_of_offer {s : State} {w : CmdWord} {acts : List HostAct}
    (h : s.host = .pins (HostPins.offer w) :: acts) : offered s = some w := by
  simp [offered, hostPins, h]

/-! Time -/

theorem nextNow_unbounded {p : Params} (h : p.clkBits = none) (t : Nat) : nextNow p t = t + 1 := by
  simp [nextNow, h]

theorem elapsed_unbounded {p : Params} (h : p.clkBits = none) (now t : Nat) : elapsed p now t = now - t := by
  simp [elapsed, h]

/-! The environment -/

theorem sample_of_cons {s : State} {lv : Level} {ls : List Level} (h : s.line = lv :: ls) : sample s = lv := by
  simp [sample, h]

theorem sample_of_nil {s : State} (h : s.line = []) : sample s = Config.envLine s.draws := by
  simp [sample, h]

/-! The engines -/

@[simp] theorem engine_idle {s : State} (h : s.curOp = .idle) : engine s = s := by simp [engine, h]
@[simp] theorem engine_tx {s : State} (h : s.curOp = .tx) : engine s = txTick s := by simp [engine, h]
@[simp] theorem engine_rx {s : State} (h : s.curOp = .rx) : engine s = rxTick s := by simp [engine, h]

/-- All that a tick of the transmit engine can do (R126). -/
theorem txTick_cases (s : State) :
    (s.tx.phi.toNat ≠ s.params.timing.bitPeriod - 1 ∧
      txTick s = drive (sendBit s.params.timing (txBit s) s.tx.phi.toNat) (setTx { s.tx with phi := s.tx.phi + 1#12 } s)) ∨
    (s.tx.phi.toNat = s.params.timing.bitPeriod - 1 ∧ s.tx.k ≠ s.tx.len - 1#7 ∧
      txTick s =
        drive (sendBit s.params.timing (txBit s) s.tx.phi.toNat) (setTx { s.tx with phi := 0#12, k := s.tx.k + 1#7 } s)) ∨
    (s.tx.phi.toNat = s.params.timing.bitPeriod - 1 ∧ s.tx.k = s.tx.len - 1#7 ∧
      txTick s =
        drive (sendBit s.params.timing (txBit s) s.tx.phi.toNat) (complete (setTx { s.tx with phi := 0#12 } s))) := by
  by_cases hp : s.tx.phi.toNat = s.params.timing.bitPeriod - 1
  · by_cases hk : s.tx.k = s.tx.len - 1#7
    · exact .inr (.inr ⟨hp, hk, by unfold txTick; dsimp only; rw [if_pos hp, if_pos hk]⟩)
    · exact .inr (.inl ⟨hp, hk, by unfold txTick; dsimp only; rw [if_pos hp, if_neg hk]⟩)
  · exact .inl ⟨hp, by unfold txTick; dsimp only; rw [if_neg hp]⟩

/-- All that a tick of the receive engine can do (R143). -/
theorem rxTick_cases (s : State) :
    (rxLast s = false ∧ rxTick s = setRx (rxSample s.params (sample s) s.now s.rx) s) ∨
    (rxLast s = true ∧
      rxTick s =
        finishRx (frameOk (rxSample s.params (sample s) s.now s.rx).sr (rxSample s.params (sample s) s.now s.rx).cnt)
          (rxSample s.params (sample s) s.now s.rx).sr s) := by
  cases h : rxLast s
  · exact .inl ⟨rfl, by simp [rxTick, h]⟩
  · exact .inr ⟨rfl, by simp [rxTick, h]⟩

/-- All that a sample can do to the receive registers (R143 to R146). -/
theorem rxSample_cases (p : Params) (lv : Level) (now : Nat) (r : RxRegs) :
    (lv = .high ∧ r.po = false ∧ ∃ b, rxClassify p r.seen (elapsed p now r.tlast) = some b ∧
        rxSample p lv now r = rxPush b r) ∨
    (lv = .high ∧ r.po = false ∧ rxClassify p r.seen (elapsed p now r.tlast) = none ∧
        rxSample p lv now r = if p.deadzone = .edge then { r with seen := true } else r) ∨
    (lv = .high ∧ r.po = true ∧ rxSample p lv now r = r) ∨
    (lv = .low ∧ r.po = true ∧ rxSample p lv now r = { r with po := false, tlast := now }) ∨
    (lv = .low ∧ r.po = false ∧ rxSample p lv now r = { r with seen := false }) := by
  cases lv <;> cases hp : r.po <;> simp [rxSample, hp]
  cases hc : rxClassify p r.seen (elapsed p now r.tlast) with
  | none => simp
  | some b => cases b <;> simp

/-- A classified bit was measured for at least `RX_T0_MIN` ticks (R106). -/
theorem le_of_rxClassify {p : Params} {seen : Bool} {e : Nat} {b : Bool}
    (h : rxClassify p seen e = some b) : p.timing.rxT0Min ≤ e := by
  unfold rxClassify classify at h
  split at h
  · cases h
  · split at h
    · cases h
    · omega

/-! Results -/

theorem frameOk_iff (sr : Message) (cnt : Nat) :
    frameOk sr cnt = true ↔ cnt ≠ 0 ∧ cnt % 4 = 0 ∧ checkParity sr = true := by
  simp [frameOk, and_assoc]

theorem checkParity_iff (x : Message) : checkParity x = true ↔ parityOf x = nib x 0 := by
  simp [checkParity]

end Sys2Proof.Machine
end

