-- ==== Sys2Proof/Laws/PerInstr.lean ====
section
/-! SUPPORT. A statement about each command as syntax, one lemma for each constructor of Instr. -/

namespace Sys2Proof.Laws

/-- R86: the encoder's word carries the row's `CMD` and is one that an assembler may produce. -/
def EncodedWordIsCanonical.Statement (i : Instr) : Prop :=
  cmdOf (encode i) = encodeCmd i ∧ CmdWordWellFormed (encode i) = true

/-- The number of a word whose `CMD` is `c` and whose operand has the bits that R81 names. -/
theorem canonical_of_bound (c : BitVec 8) (arg : BitVec 64) (h1 : 1 ≤ c.toNat) (h6 : c.toNat ≤ 6)
    (hb : arg.toNat < 2 ^ argBits c.toNat) : CmdWordWellFormed (wordOf c arg) = true := by
  have hm : (arg.toNat * 256 + c.toNat) % 256 = c.toNat := by omega
  have hlt : arg.toNat * 256 + c.toNat < 2 ^ (8 + argBits c.toNat) := by
    rw [Nat.pow_add]
    have h8 : (2 : Nat) ^ 8 = 256 := rfl
    rw [h8]
    have h2 : arg.toNat + 1 ≤ 2 ^ argBits c.toNat := hb
    calc arg.toNat * 256 + c.toNat < (arg.toNat + 1) * 256 := by omega
      _ ≤ 2 ^ argBits c.toNat * 256 := Nat.mul_le_mul_right _ h2
      _ = 256 * 2 ^ argBits c.toNat := Nat.mul_comm _ _
  unfold CmdWordWellFormed
  simp only [toNat_wordOf, hm]
  simp [h1, h6, hlt]

theorem EncodedWordIsCanonical.send (m : BitVec 64) : EncodedWordIsCanonical.Statement (.send m) :=
  ⟨cmdOf_encode _, canonical_of_bound 0x01#8 m (by decide) (by decide) m.isLt⟩

theorem EncodedWordIsCanonical.receive : EncodedWordIsCanonical.Statement .receive :=
  ⟨cmdOf_encode _, canonical_of_bound 0x02#8 0#64 (by decide) (by decide) (by decide)⟩

theorem EncodedWordIsCanonical.sendPlayingTrack (track : BitVec 8) (secs : BitVec 16) :
    EncodedWordIsCanonical.Statement (.sendPlayingTrack track secs) := by
  refine ⟨cmdOf_encode _, canonical_of_bound 0x03#8 _ (by decide) (by decide) ?_⟩
  have h : ((secs ++ track).setWidth 64).toNat = (secs ++ track).toNat := BitVec.toNat_setWidth_of_le (by decide)
  show ((secs ++ track).setWidth 64).toNat < 2 ^ 24
  rw [h]
  exact (secs ++ track).isLt

theorem EncodedWordIsCanonical.sendChangedCd (cd track : BitVec 8) :
    EncodedWordIsCanonical.Statement (.sendChangedCd cd track) := by
  refine ⟨cmdOf_encode _, canonical_of_bound 0x04#8 _ (by decide) (by decide) ?_⟩
  have h : ((track ++ cd).setWidth 64).toNat = (track ++ cd).toNat := BitVec.toNat_setWidth_of_le (by decide)
  show ((track ++ cd).setWidth 64).toNat < 2 ^ 16
  rw [h]
  exact (track ++ cd).isLt

theorem EncodedWordIsCanonical.sendCdStatus (cd : BitVec 8) :
    EncodedWordIsCanonical.Statement (.sendCdStatus cd) := by
  refine ⟨cmdOf_encode _, canonical_of_bound 0x05#8 _ (by decide) (by decide) ?_⟩
  have h : (cd.setWidth 64).toNat = cd.toNat := BitVec.toNat_setWidth_of_le (by decide)
  show (cd.setWidth 64).toNat < 2 ^ 8
  rw [h]
  exact cd.isLt

theorem EncodedWordIsCanonical.checkParity (x : BitVec 64) :
    EncodedWordIsCanonical.Statement (.checkParity x) :=
  ⟨cmdOf_encode _, canonical_of_bound 0x06#8 x (by decide) (by decide) x.isLt⟩

end Sys2Proof.Laws
end

