-- ==== Sys2Proof/Laws/Run.lean ====
section
/-! SUPPORT. What the states of a run are (R234), one tick at a time, and what a good run is. -/

namespace Sys2Proof.Machine

/-- A run that has ended goes no further. -/
theorem runStates_of_ended {s : State} (h : runEnded s = true) (n : Nat) : runStates n s = some [s] := by
  cases n <;> simp [runStates, h]

theorem runStates_zero {s : State} (h : runEnded s = false) : runStates 0 s = none := by
  simp [runStates, h]

/-- A run that has not ended goes on with the next tick. -/
theorem runStates_succ {s t : State} (h : runEnded s = false) (hs : step s = .next t) (n : Nat) :
    runStates (n + 1) s = (runStates n t).map (s :: ·) := by
  simp [runStates, h, hs]

/-- The observation of a run of these states. -/
theorem observe_of_runStates {n : Nat} {s last : State} {states : List State}
    (h : runStates n s = some (states ++ [last])) :
    observe n s = some { trace := (states ++ [last]).tail.map State.outLine, final := hostView last } := by
  simp [observe, h]

/-- A good run ends and shows no fault. -/
theorem goodRun_iff (n : Nat) (s : State) :
    goodRun n s = true ↔ ∃ states, runStates n s = some states ∧ ∀ t ∈ states, t.fault = false := by
  unfold goodRun
  cases runStates n s <;> simp

theorem runEnded_iff (s : State) : runEnded s = true ↔ s.host.all HostAct.quiet = true ∧ s.busy = false := by
  simp [runEnded]

end Sys2Proof.Machine
end

