-- ==== Sys2Proof/Laws/Step.lean ====
section
/-! SUPPORT. What a command phase, a tick and a run can do, said once. -/

namespace Sys2Proof.Machine

/-- All that a command phase can do (R84): nothing offered, a command accepted, a reserved command at an idle block, or a
command turned away. -/
theorem commandPhase_cases (s : State) :
    (offered s = none ∧ commandPhase s = .next s) ∨
    (∃ w i, offered s = some w ∧ decode w = .ok i ∧ accepting s = true ∧ commandPhase s = .next (acceptedState i s)) ∨
    (∃ w e, offered s = some w ∧ decode w = .error e ∧ accepting s = true ∧
      commandPhase s = .next (recordFault causeIllegalCmd s)) ∨
    (∃ w, offered s = some w ∧ accepting s = false ∧ commandPhase s = .next (cmdWhileBusy s)) := by
  cases ho : offered s with
  | none => exact .inl ⟨rfl, by simp [commandPhase, ho]⟩
  | some w =>
    cases hd : decode w with
    | ok i =>
      have hc : commandPhase s = exec i s := by simp [commandPhase, ho, hd]
      cases ha : accepting s with
      | true => exact .inr (.inl ⟨w, i, rfl, hd, rfl, by rw [hc, exec_eq_offer, offer_of_accepting ha]⟩)
      | false => exact .inr (.inr (.inr ⟨w, rfl, rfl, by rw [hc, exec_eq_offer, offer_of_not_accepting ha]⟩))
    | error e =>
      have hc : commandPhase s = .next (rejectReserved s) := by simp [commandPhase, ho, hd]
      cases ha : accepting s with
      | true => exact .inr (.inr (.inl ⟨w, e, rfl, hd, rfl, by simp [hc, rejectReserved, ha, illegalCmd]⟩))
      | false => exact .inr (.inr (.inr ⟨w, rfl, rfl, by simp [hc, rejectReserved, ha]⟩))

/-- All that a step can do (R40): reset, or the tick that finishes the command phase. -/
theorem step_cases {s t : State} (h : step s = .next t) :
    ((hostPins s).rst = true ∧ t = resetTick s) ∨
    ((hostPins s).rst = false ∧ ∃ s1, commandPhase s = .next s1 ∧ t = finishTick s s1) := by
  unfold step at h
  cases hr : (hostPins s).rst with
  | true => simp only [hr, if_true] at h; cases h; exact .inl ⟨rfl, rfl⟩
  | false =>
    simp only [hr, Bool.false_eq_true, if_false] at h
    cases hc : commandPhase s with
    | next s1 => rw [hc] at h; cases h; exact .inr ⟨rfl, s1, rfl, rfl⟩
    | fault r => cases r
    | refused r => rw [hc] at h; cases h

theorem step_of_rst {s : State} (h : (hostPins s).rst = true) : step s = .next (resetTick s) := by
  simp [step, h]

theorem step_of_commandPhase {s s1 : State} (h : (hostPins s).rst = false) (hc : commandPhase s = .next s1) :
    step s = .next (finishTick s s1) := by
  simp [step, h, hc]

/-- A tick in which nothing is unspecified: the engine, then the next tick. -/
theorem finishTick_specified {s s1 : State} (h : s.unspec = false) (h1 : s1.unspec = false) :
    finishTick s s1 = advance (setHost (hostRest s) (engine s1)) := by
  simp [finishTick, engineOrUnspec, h, h1]

@[simp] theorem finishTick_params (s s1 : State) : (finishTick s s1).params = s1.params := by
  unfold finishTick; dsimp only; split <;> simp
@[simp] theorem finishTick_host (s s1 : State) : (finishTick s s1).host = hostRest s := by
  unfold finishTick; dsimp only; split <;> simp
@[simp] theorem finishTick_line (s s1 : State) : (finishTick s s1).line = s1.line.tail := by
  unfold finishTick; dsimp only; split <;> simp
@[simp] theorem finishTick_draws (s s1 : State) : (finishTick s s1).draws = s1.draws + 1 := by
  unfold finishTick; dsimp only; split <;> simp
@[simp] theorem finishTick_unspec (s s1 : State) : (finishTick s s1).unspec = s1.unspec := by
  unfold finishTick; dsimp only; split <;> simp
@[simp] theorem finishTick_now (s s1 : State) : (finishTick s s1).now = nextNow s1.params s1.now := by
  unfold finishTick; dsimp only; split <;> simp
@[simp] theorem finishTick_fault (s s1 : State) : (finishTick s s1).fault = s1.fault := by
  unfold finishTick; dsimp only; split <;> simp
@[simp] theorem finishTick_faultCause (s s1 : State) : (finishTick s s1).faultCause = s1.faultCause := by
  unfold finishTick; dsimp only; split <;> simp

/-- A host that has nothing left to do offers nothing. -/
theorem step_of_silent_host {s : State} (hh : s.host = []) (hu : s.unspec = false) :
    step s = .next (advance (engine s)) := by
  have hp : hostPins s = HostPins.silent := by simp [hostPins, hh]
  have ho : offered s = none := offered_of_not_valid (by simp [hp])
  have hr : hostRest s = [] := by simp [hostRest, hh]
  rw [step_of_commandPhase (s1 := s) (by simp [hp]) (by simp [commandPhase, ho]), finishTick_specified hu hu, hr]
  have he : (engine s).host = [] := by simp [hh]
  rw [← he]
  rfl

/-- An accepted command, its whole tick (R40). -/
theorem step_of_accepted {s : State} {i : Instr} {acts : List HostAct} (ha : accepting s = true)
    (hd : decode (encode i) = .ok i) (hh : s.host = .pins (HostPins.offer (encode i)) :: acts) :
    step s = .next (advance (setHost acts (engine (acceptedState i s)))) := by
  have ho : offered s = some (encode i) := offered_of_offer hh
  have hc : commandPhase s = .next (acceptedState i s) := by
    simp only [commandPhase, ho, hd]
    rw [exec_eq_offer, offer_of_accepting ha]
  have hu : s.unspec = false := ((accepting_iff s).1 ha).1
  have hu' : (acceptedState i s).unspec = false := by
    cases i <;> simp [acceptedState, hu]
    split <;> simp [hu]
  have hr : hostRest s = acts := by simp [hostRest, hh]
  rw [step_of_commandPhase (by simp [hostPins, hh]) hc, finishTick_specified hu hu', hr]

/-! Runs -/

theorem run_zero (s : State) : Sys2Proof.core.run 0 s = .next s := rfl

/-- A run of any machine goes on from its first step's next state. -/
theorem run_succ_of_next (M : Host.Core) {s t : M.State} (h : M.step s = .next t) (n : Nat) :
    M.run (n + 1) s = M.run n t := by
  simp only [Host.Core.run, h]

/-- A run of any machine stops where its first step is refused. -/
theorem run_succ_of_refused (M : Host.Core) {s : M.State} {r : M.Refusal} (h : M.step s = .refused r) (n : Nat) :
    M.run (n + 1) s = .refused r := by
  simp only [Host.Core.run, h]

theorem run_succ {s t : State} (h : step s = .next t) (n : Nat) :
    Sys2Proof.core.run (n + 1) s = Sys2Proof.core.run n t :=
  run_succ_of_next Sys2Proof.core h n

/-- A run of `m + n` ticks is one of `m` and then one of `n`. -/
theorem run_add {s t : State} {m : Nat} (h : Sys2Proof.core.run m s = .next t) (n : Nat) :
    Sys2Proof.core.run (m + n) s = Sys2Proof.core.run n t := by
  induction m generalizing s with
  | zero =>
    rw [run_zero] at h
    cases h
    rw [Nat.zero_add]
  | succ m ih =>
    rw [Nat.add_right_comm]
    cases hs : step s with
    | next s' =>
      rw [run_succ hs] at h ⊢
      exact ih h
    | fault r => cases r
    | refused r =>
      exfalso
      rw [run_succ_of_refused Sys2Proof.core hs] at h
      cases h

end Sys2Proof.Machine
end

