-- ==== Sys2Proof/Laws/Word.lean ====
section
/-! SUPPORT. Small facts about levels and the timing constants. -/

namespace Sys2Proof

@[simp] theorem Level.flip_low : Level.flip .low = .high := rfl
@[simp] theorem Level.flip_high : Level.flip .high = .low := rfl
@[simp] theorem Level.flip_flip (lv : Level) : lv.flip.flip = lv := by cases lv <;> rfl

/-- R6: the source's values meet the constraints on the timing constants. -/
theorem timing_wellFormed : Config.timing.wellFormed = true := by decide

theorem Timing.wellFormed_iff (tm : Timing) : tm.wellFormed = true ↔
    tm.t0High + tm.t0Low = tm.bitPeriod ∧ tm.t1High + tm.t1Low = tm.bitPeriod ∧ 0 < tm.rxT0Min ∧
      tm.rxT0Min ≤ tm.rxT0Max ∧ 1 ≤ tm.bitPeriod ∧ tm.bitPeriod ≤ 2 ^ 12 := by
  simp [Timing.wellFormed, and_assoc]

theorem Params.wellFormed_iff (p : Params) : p.wellFormed = true ↔
    p.timing.wellFormed = true ∧ 1 ≤ p.rxWindow ∧ clockCovers p.clkBits p.rxWindow = true := by
  simp [Params.wellFormed, and_assoc]

@[simp] theorem clockCovers_none (w : Nat) : clockCovers none w = true := rfl
@[simp] theorem clockCovers_some (n w : Nat) : clockCovers (some n) w = decide (w ≤ 2 ^ n) := rfl

end Sys2Proof
end

