-- ==== Sys2Proof/Tests/Slice0.lean ====
section
/-! SUPPORT. Tests: the vectors of 95_test_vectors.md that are about one word, one value or one tick, the smoke tests of the
well-formedness checks, and, for each statement with hypotheses, a state that meets them. -/

namespace Sys2Proof.Tests

open Sys2Proof.Machine

/-- The test assignment of 95_test_vectors.md 2.5 (not the protocol's values). -/
def testParams : Params :=
  { timing := Config.timing, rxWindow := 4000, clkBits := none, deadzone := .level, tplPlay := 0#64, tplChanged := 0#64, tplStatus := 0#64
    offPlayTrkOnes := 0, offPlayTrkTens := 1, offPlaySecOnes := 2, offPlaySecTens := 3, offPlayMinOnes := 4
    offPlayMinTens := 5, offChgCd := 2, offChgTrkOnes := 0, offChgTrkTens := 1, offStatCd := 0 }

/-- An idle block whose line is low and whose `in_line` shows `lv` in this tick. -/
def idleState (host : List HostAct) (lv : Level) : State :=
  { params := testParams, host := host, line := [lv], draws := 1, unspec := false, now := 0, outLine := .low
    busy := false, curOp := .idle, resultOk := false, rxData := 0#64, fault := false, faultCause := 0#2
    tx := TxRegs.reset, rx := RxRegs.reset }

/-- A block that is at tick `phi` of bit `k` of the frame of `0x1`. -/
def txState (host : List HostAct) (k : BitVec 7) (phi : BitVec 12) : State :=
  { idleState host .low with
    busy := true, curOp := .tx, tx := { bits := frameBits 1#64, len := 8#7, k := k, phi := phi } }

/-- A block in tick `now` of a receive window that began in tick 0. -/
def rxState (host : List HostAct) (lv : Level) (now : Nat) (rx : RxRegs) : State :=
  { idleState host lv with busy := true, curOp := .rx, now := now, rx := rx }

/-- Receive registers with the window start 0. -/
def rxRegs (sr : BitVec 64) (cnt : Nat) (po : Bool) (tlast : Nat) (seen : Bool) : RxRegs :=
  { sr := sr, cnt := cnt, po := po, tstart := 0, tlast := tlast, seen := seen }

/-- What a next state shows. -/
def after {α : Type} (o : Host.Outcome State Fault Refusal) (f : State → α) : Option α :=
  match o with
  | .next t => some (f t)
  | .fault _ => none
  | .refused _ => none

/-- The host offers the word with this `CMD` and `ARG`. -/
def raw (cmd : BitVec 8) (arg : BitVec 64) : HostAct := .pins ⟨false, true, cmd, arg⟩

/-! Decoding: words written out from R80, R81, R88 (P1 to P7, V-CB-1, V-CB-2) -/

theorem test_decode_send : decode 0x000000000000001201#72 = .ok (.send 0x12#64) := by decide
theorem test_decode_receive_ignores_arg : decode 0xFFFFFFFFFFFFFFFF02#72 = .ok .receive := by decide
theorem test_decode_playing_track : decode 0x0000000000007D0C03#72 = .ok (.sendPlayingTrack 12#8 125#16) := by decide
theorem test_decode_changed_cd : decode 0x000000000000070304#72 = .ok (.sendChangedCd 3#8 7#8) := by decide
theorem test_decode_cd_status : decode 0xFFFFFFFFFFFFFF0505#72 = .ok (.sendCdStatus 5#8) := by decide
theorem test_decode_check_parity : decode 0x00000000000000F006#72 = .ok (.checkParity 0xF0#64) := by decide
theorem test_decode_reserved :
    decode 0x00#72 = .error .reservedOpcode ∧ decode 0x07#72 = .error .reservedOpcode ∧
      decode 0x09#72 = .error .reservedBits ∧ decode 0x81#72 = .error .reservedBits := by decide
theorem test_encode_playing_track : encode (.sendPlayingTrack 12#8 125#16) = 0x0000000000007D0C03#72 := by decide
theorem test_encode_changed_cd : encode (.sendChangedCd 3#8 7#8) = 0x000000000000070304#72 := by decide
theorem test_decode_table_word :
    decodeTableWord 8 1 = some (.send 0#64) ∧ decodeTableWord 8 2 = some .receive ∧
      decodeTableWord 8 3 = some (.sendPlayingTrack 0#8 0#16) ∧ decodeTableWord 8 4 = some (.sendChangedCd 0#8 0#8) ∧
      decodeTableWord 8 5 = some (.sendCdStatus 0#8) ∧ decodeTableWord 8 6 = some (.checkParity 0#64) ∧
      decodeTableWord 8 7 = none := by decide

/-! Well-formedness: an ill-formed term for each check -/

theorem test_line_refused_send : Line.wellFormed (.send (2 ^ 64)) = false ∧ Line.wellFormed (.send (2 ^ 64 - 1)) = true := by
  decide
theorem test_line_refused_play :
    Line.wellFormed (.play 256 0) = false ∧ Line.wellFormed (.play 0 65536) = false ∧
      Line.wellFormed (.play 255 65535) = true := by decide
theorem test_line_refused_changed :
    Line.wellFormed (.changed 256 0) = false ∧ Line.wellFormed (.changed 0 256) = false := by decide
theorem test_line_refused_status : Line.wellFormed (.status 256) = false := by decide
theorem test_line_refused_chkpar : Line.wellFormed (.chkpar (2 ^ 64)) = false := by decide
theorem test_line_refused_sendw : Line.wellFormed (.sendw (2 ^ 64)) = false := by decide
theorem test_word_refused :
    CmdWordWellFormed 0x07#72 = false ∧ CmdWordWellFormed 0x00#72 = false ∧ CmdWordWellFormed 0x0102#72 = false ∧
      CmdWordWellFormed 0x10005#72 = false ∧ CmdWordWellFormed 0xFF05#72 = true := by decide
theorem test_params_refused :
    Params.wellFormed { testParams with rxWindow := 0 } = false ∧ Params.wellFormed testParams = true := by decide
theorem test_clock_refused :
    Params.wellFormed { testParams with clkBits := some 11 } = false ∧
      Params.wellFormed { testParams with clkBits := some 12 } = true := by decide
theorem test_timing_refused :
    Timing.wellFormed { Config.timing with t0Low := 2399 } = false ∧
      Timing.wellFormed { Config.timing with t1High := 1801 } = false ∧
      Timing.wellFormed { Config.timing with rxT0Min := 0 } = false ∧
      Timing.wellFormed { Config.timing with rxT0Min := 1401 } = false ∧
      Timing.wellFormed { Config.timing with t0High := 0, t0Low := 0, t1High := 0, t1Low := 0, bitPeriod := 0 } = false ∧
      Timing.wellFormed { Config.timing with t0Low := 3497, t1Low := 2297, bitPeriod := 4097 } = false := by decide
theorem test_assembler_refuses : assembleLine (.status 256) = .error .outOfRange := by decide

/-! Host text (R86, R87) -/

theorem test_text_line :
    parseLine "  PLAY 12, 0x7D ; a comment".toList = .ok (some (.play 12 125)) ∧
      parseLine "; nothing".toList = .ok none ∧
      parseLine "NOP".toList = .error .unknownMnemonic ∧
      parseLine "SEND".toList = .error .badOperands ∧
      parseLine "SEND 0x1G".toList = .error .badOperands := by decide
theorem test_text_program :
    assembleText "CHKPAR 0x12\nSENDW 1".toList = .ok [raw 0x06#8 0x12#64, raw 0x01#8 1#64, .waitIdle] := by decide
theorem test_waitidle_takes_no_tick :
    hostTick false [.waitIdle, .delay 0, raw 0x06#8 1#64] = (⟨false, true, 0x06#8, 1#64⟩, []) ∧
      hostTick true [.waitIdle, raw 0x06#8 1#64] = (HostPins.silent, [.waitIdle, raw 0x06#8 1#64]) := by decide

/-! Functions -/

/-- V-CLS-1 to V-CLS-7. -/
theorem test_classify :
    [0, 599, 600, 1200, 1400, 1401, 1800, 2400, 100000].map (classify Config.timing) =
      [none, none, some false, some false, some false, some true, some true, some true, some true] := by decide

/-- R129. -/
theorem test_frame_nibbles :
    frameNibbles 0x0#64 = [1#4] ∧ frameNibbles 0x1#64 = [1#4, 2#4] ∧ frameNibbles 0xF#64 = [0xF#4, 0#4] ∧
      frameNibbles 0x100#64 = [1#4, 0#4, 0#4, 2#4] ∧ frameNibbles 0x12#64 = [1#4, 2#4, 4#4] ∧
      frameNibbles 0x8000000000000000#64 = 8#4 :: List.replicate 15 0#4 ++ [9#4] ∧
      frameNibbles 0xFFFFFFFFFFFFFFFF#64 = List.replicate 16 0xF#4 ++ [1#4] := by decide

/-- R130: bits `0001 0010 0100`. -/
theorem test_frame_bits :
    frameBits 0x12#64 = [false, false, false, true, false, false, true, false, false, true, false, false] := by decide

/-- V-PAR-1 to V-PAR-10. -/
theorem test_check_parity :
    [0x0#64, 0x1#64, 0x12#64, 0x13#64, 0xF0#64, 0xFFFFFFFFFFFFFFFF#64, 0xFFFFFFFFFFFFFFF0#64, 0x123456789ABCDEF1#64,
        0x10#64, 0x21#64].map checkParity =
      [false, true, true, false, true, false, true, true, false, false] := by decide

/-- V-CB-10. -/
theorem test_ins : ins 0xF0#64 5 1 = 0xF0#64 ∧ ins 0x0#64 0x14 15 = 0x4000000000000000#64 := by decide

/-- V-CB-4, V-CB-7. -/
theorem test_compose_play :
    composePlay testParams 12#8 125#16 = 0x020512#64 ∧ composePlay testParams 200#8 0#16 = 0x140#64 := by decide

/-- V-CB-5, V-CB-6, V-CB-8. -/
theorem test_compose_changed_and_status :
    composeChanged testParams 3#8 7#8 = 0x307#64 ∧ composeChanged testParams 20#8 7#8 = 0x1407#64 ∧
      composeStatus testParams 5#8 = 0x5#64 := by decide

/-- V-CB-11: `secs = 65535` has minutes 1092, ones 2 and tens 0x6D, and seconds 15. -/
theorem test_time_split : composePlay testParams 0#8 65535#16 = 0x6D21500#64 ||| 0x20000#64 := by decide

/-- R104 example: `v = 0x2`. -/
theorem test_write_nibble :
    [0, 599, 600, 3000, 3599, 3600, 6000, 7799, 7800, 9599, 9600].map (writeNibble Config.timing 2#4) =
      [.high, .high, .low, .high, .high, .low, .high, .high, .low, .high, .low] := by decide

/-! One tick -/

/-- V-TX-11, R24: the acceptance tick of SEND drives HIGH, and `BUSY` reads 1 from the next tick. -/
theorem test_step_send_first_tick :
    after (step (idleState [raw 0x01#8 0x1#64] .low)) (fun t => (t.outLine, t.busy, t.tx.phi, t.host)) =
      some (.high, true, 1#12, []) := by decide

/-- R126, R127: the last tick of a frame is low, and the block is idle after it. -/
theorem test_step_send_last_tick :
    after (step (txState [] 7#7 2999#12)) (fun t => (t.outLine, t.busy, t.curOp)) = some (.low, false, .idle) := by decide

/-- R141: the line is high at acceptance. -/
theorem test_step_receive_line_high :
    after (step (idleState [raw 0x02#8 0#64] .high)) (fun t => (t.busy, t.curOp, t.resultOk, t.rxData)) =
      some (false, .idle, false, 0#64) := by decide

/-- R142: the line is low at acceptance. -/
theorem test_step_receive_line_low :
    after (step (idleState [raw 0x02#8 0#64] .low)) (fun t => (t.busy, t.curOp, t.now, t.rx)) =
      some (true, .rx, 1, rxRegs 0#64 0 false 0 false) := by decide

/-- V-RX-12: four bits `0001`; the last tick of the window. -/
theorem test_step_receive_last_tick :
    after (step (rxState [] .low 3999 (rxRegs 1#64 4 false 3205 false))) (fun t => (t.busy, t.resultOk, t.rxData)) =
      some (false, true, 0#64) := by decide

/-- V-RX-5: a dead-zone high in tick 300 and the same level in tick 600, in both modes. -/
theorem test_dead_zone_modes :
    rxSample testParams .high 300 (rxRegs 0#64 0 false 0 false) = rxRegs 0#64 0 false 0 false ∧
      rxSample testParams .high 600 (rxRegs 0#64 0 false 0 false) = rxRegs 0#64 1 true 0 false ∧
      rxSample { testParams with deadzone := .edge } .high 300 (rxRegs 0#64 0 false 0 false) = rxRegs 0#64 0 false 0 true ∧
      rxSample { testParams with deadzone := .edge } .high 600 (rxRegs 0#64 0 false 0 true) = rxRegs 0#64 0 false 0 true := by
  decide

/-- V-CB-4: the frame of `0x020512` is loaded. -/
theorem test_step_playing_track :
    after (step (idleState [raw 0x03#8 0x7D0C#64] .low)) (fun t => (t.tx.bits, t.tx.len, t.outLine)) =
      some (frameBits 0x020512#64, 24#7, .high) := by decide

/-- V-CB-5. -/
theorem test_step_changed_cd :
    after (step (idleState [raw 0x04#8 0x0703#64] .low)) (fun t => (t.tx.bits, t.tx.len, t.busy)) =
      some (frameBits 0x307#64, 16#7, true) := by decide

/-- V-CB-6, P6. -/
theorem test_step_cd_status :
    after (step (idleState [raw 0x05#8 0x05#64] .low)) (fun t => (t.tx.bits, t.tx.len, t.busy)) =
      some (frameBits 0x5#64, 8#7, true) := by decide

/-- P1: `CHKPAR 0x12` and `CHKPAR 0x13`. -/
theorem test_step_check_parity :
    after (step (idleState [raw 0x06#8 0x12#64] .low)) (fun t => (t.resultOk, t.busy, t.outLine)) = some (true, false, .low) ∧
      after (step (idleState [raw 0x06#8 0x13#64] .low)) (fun t => t.resultOk) = some false := by decide

/-- V-CMD-1, V-CMD-3. -/
theorem test_step_illegal :
    after (step (idleState [raw 0x00#8 0#64] .low)) (fun t => (t.fault, t.faultCause, t.busy)) = some (true, 1#2, false) ∧
      after (step (idleState [raw 0x09#8 0#64] .low)) (fun t => (t.fault, t.faultCause)) = some (true, 1#2) := by decide

/-- V-CMD-5, V-CMD-6, V-CMD-9. -/
theorem test_step_while_busy :
    after (step (txState [raw 0x01#8 2#64] 0#7 1#12)) (fun t => (t.fault, t.faultCause)) = some (true, 2#2) ∧
      after (step (txState [raw 0x00#8 0#64] 0#7 1#12)) (fun t => (t.fault, t.faultCause)) = some (true, 2#2) ∧
      after (step (txState [raw 0x06#8 0#64] 7#7 2999#12)) (fun t => (t.fault, t.faultCause)) = some (true, 2#2) := by decide

/-- V-CMD-8: the first cause stays. -/
theorem test_step_first_cause_stays :
    after (step { txState [raw 0x01#8 0#64] 0#7 1#12 with fault := true, faultCause := 1#2 }) (fun t => t.faultCause) =
      some 1#2 := by decide

/-- V-CMD-7, V-RST-1, V-RST-3: reset wins over a command and abandons the operation. -/
theorem test_step_reset :
    after (step (txState [.pins ⟨true, true, 0x00#8, 0#64⟩] 0#7 1#12))
      (fun t => (hostView t, t.curOp)) = some (⟨false, false, 0#64, false, 0#2⟩, .idle) := by decide

/-- R31: a finite clock wraps, and elapsed times with it. -/
theorem test_finite_clock :
    nextNow { testParams with clkBits := some 4 } 15 = 0 ∧ elapsed { testParams with clkBits := some 4 } 2 14 = 4 := by decide

/-- Each row of the opcode table runs as the first command after reset. -/
theorem test_first_command_after_reset :
    [1, 2, 3, 4, 5, 6].map (fun w => after (step (State.reset.withFetchWord 8 w)) (fun _ => ())) =
      List.replicate 6 (some ()) := by decide

/-! For each statement with hypotheses, values that meet them -/

theorem test_meets_EncodeOfDecode : decode 0xFFFFFFFFFFFFFF0505#72 = .ok (.sendCdStatus 5#8) := by decide

theorem test_meets_ReservedCommands :
    (accepting (idleState [raw 0x07#8 0#64] .low) = true ∧ (hostPins (idleState [raw 0x07#8 0#64] .low)).rst = false ∧
      offered (idleState [raw 0x07#8 0#64] .low) = some 0x07#72) ∧
    (accepting (idleState [raw 0x09#8 0#64] .low) = true ∧ offered (idleState [raw 0x09#8 0#64] .low) = some 0x09#72) ∧
    (accepting (idleState [raw 0x06#8 0#64] .low) = true ∧ offered (idleState [raw 0x06#8 0#64] .low) = some 0x06#72) := by
  decide

theorem test_meets_PseudoInstructions :
    (idleState [raw 0x02#8 0#64] .low).host = [raw 0x02#8 0#64] ∧
      (idleState [.waitIdle] .low).host = [.waitIdle] ∧ (idleState [.waitIdle] .low).busy = false ∧
      (txState [.waitIdle] 0#7 0#12).host = [.waitIdle] ∧ (txState [.waitIdle] 0#7 0#12).busy = true ∧
      (idleState [.delay 0] .low).host = [.delay 0] ∧ (idleState [.delay 1] .low).host = [.delay (0 + 1)] := by decide

theorem test_meets_StepRunsTheDecodedInstruction :
    (hostPins (idleState [raw 0x06#8 1#64] .low)).rst = false ∧
      offered (idleState [raw 0x06#8 1#64] .low) = some 0x106#72 ∧ decode 0x106#72 = .ok (.checkParity 1#64) ∧
      (hostPins (idleState [] .low)).rst = false ∧ offered (idleState [] .low) = none ∧
      (idleState [] .low).unspec = false := by decide

theorem test_meets_ChecksRunInTheirOrder :
    (hostPins (idleState [.pins HostPins.reset] .low)).rst = true ∧
      (hostPins (txState [raw 0x00#8 0#64] 0#7 0#12)).rst = false ∧ (txState [raw 0x00#8 0#64] 0#7 0#12).curOp ≠ .idle ∧
      offered (txState [raw 0x00#8 0#64] 0#7 0#12) = some 0x00#72 ∧
      (idleState [raw 0x00#8 0#64] .low).curOp = .idle ∧ decode 0x00#72 = .error .reservedOpcode ∧
      decode 0x06#72 = .ok (.checkParity 0#64) := by decide

theorem test_meets_IdleBlock :
    (idleState [.delay 3] .high).unspec = false ∧ (idleState [.delay 3] .high).curOp = .idle ∧
      (hostPins (idleState [.delay 3] .high)).rst = false ∧ offered (idleState [.delay 3] .high) = none := by decide

/-- The acceptance statements: an accepting block that is offered each command, and one that is not accepting. -/
theorem test_meets_acceptance :
    accepting (idleState [offerOf (.send 0x12#64)] .low) = true ∧
      (hostPins (idleState [offerOf (.send 0x12#64)] .low)).rst = false ∧
      offered (idleState [offerOf (.send 0x12#64)] .low) = some (encode (.send 0x12#64)) ∧
      offered (idleState [offerOf .receive] .low) = some (encode .receive) ∧
      offered (idleState [offerOf (.checkParity 1#64)] .low) = some (encode (.checkParity 1#64)) ∧
      sample (idleState [] .low) = .low ∧ sample (idleState [] .high) = .high ∧
      accepting (txState [] 0#7 0#12) = false ∧ (txState [] 0#7 0#12).curOp ≠ .idle ∧
      accepting { idleState [] .low with unspec := true } = false := by decide

/-- CD status: a template nibble of 0 at the offset and a slot below 16, at its largest. -/
theorem test_meets_CdStatusNibble :
    nib testParams.tplStatus testParams.offStatCd.val = 0#4 ∧ ((0xF#64).extractLsb' 0 8 : BitVec 8).toNat < 16 := by decide

theorem test_meets_BusyBlock :
    accepting (txState [raw 0x07#8 0#64] 0#7 0#12) = false ∧ offered (txState [raw 0x07#8 0#64] 0#7 0#12) = some 0x07#72 ∧
      decode 0x07#72 = .error .reservedOpcode := by decide

theorem test_meets_BusyFaultTick :
    (txState [raw 0x07#8 0#64] 3#7 1800#12).unspec = false ∧ (txState [raw 0x07#8 0#64] 3#7 1800#12).curOp = .tx ∧
      (hostPins (txState [raw 0x07#8 0#64] 3#7 1800#12)).rst = false ∧
      offered (txState [raw 0x07#8 0#64] 3#7 1800#12) = some 0x07#72 := by decide

/-- A block in the unspecified regime. -/
def unspecState (host : List HostAct) : State :=
  { idleState host .low with unspec := true, fault := true, faultCause := 2#2 }

theorem test_meets_UnspecifiedRegime :
    FaultInv (unspecState []) ∧ (unspecState []).unspec = true ∧ (hostPins (unspecState [])).rst = false ∧
      (hostPins (unspecState [.pins HostPins.reset])).rst = true ∧ (∃ t, step (unspecState []) = .next t) ∧
      (∃ t, step (unspecState [.pins HostPins.reset]) = .next t) :=
  ⟨by unfold FaultInv; decide, rfl, rfl, rfl, ⟨_, rfl⟩, ⟨_, rfl⟩⟩

theorem test_meets_FaultStays :
    (unspecState []).fault = true ∧ (hostPins (unspecState [])).rst = false ∧ ∃ t, step (unspecState []) = .next t :=
  ⟨rfl, rfl, ⟨_, rfl⟩⟩

theorem test_meets_FaultHasTwoCauses :
    (∃ t, (idleState [raw 0x00#8 0#64] .low).fault = false ∧ step (idleState [raw 0x00#8 0#64] .low) = .next t ∧
      t.fault = true) ∧
    (∃ t, (txState [raw 0x00#8 0#64] 0#7 0#12).fault = false ∧ step (txState [raw 0x00#8 0#64] 0#7 0#12) = .next t ∧
      t.fault = true) :=
  ⟨⟨_, rfl, rfl, rfl⟩, ⟨_, rfl, rfl, rfl⟩⟩

theorem test_meets_Reset :
    (hostPins (txState [.pins HostPins.reset] 0#7 0#12)).rst = true ∧
      ∃ t, step (txState [.pins HostPins.reset] 0#7 0#12) = .next t :=
  ⟨rfl, ⟨_, rfl⟩⟩

theorem test_inv_idle : MachineInv (idleState [] .low) :=
  ⟨rfl, by unfold FaultInv; decide, fun _ => ⟨by unfold BusyInv; decide, by unfold TxInv; decide, by unfold RxInv; decide⟩⟩

theorem test_inv_tx : MachineInv (txState [] 7#7 2999#12) :=
  ⟨rfl, by unfold FaultInv; decide, fun _ => ⟨by unfold BusyInv; decide, by unfold TxInv; decide, by unfold RxInv; decide⟩⟩

/-- A receive window at the bound of R149: five bits and a sixth in this tick. -/
def fullWindow : State := rxState [] .high 3605 (rxRegs 0#64 5 false 3005 false)

theorem test_inv_rx : MachineInv fullWindow :=
  ⟨rfl, by unfold FaultInv; decide, fun _ => ⟨by unfold BusyInv; decide, by unfold TxInv; decide, by unfold RxInv; decide⟩⟩

/-- The invariant holds of an idle, a transmitting and a receiving block, and each has a next state. -/
theorem test_meets_Invariant :
    (MachineInv (idleState [] .low) ∧ ∃ t, step (idleState [] .low) = .next t) ∧
    (MachineInv (txState [] 7#7 2999#12) ∧ ∃ t, step (txState [] 7#7 2999#12) = .next t) ∧
    (MachineInv fullWindow ∧ ∃ t, step fullWindow = .next t) :=
  ⟨⟨test_inv_idle, _, rfl⟩, ⟨test_inv_tx, _, rfl⟩, ⟨test_inv_rx, _, rfl⟩⟩

theorem test_meets_ReceiveCounter :
    MachineInv fullWindow ∧ fullWindow.unspec = false ∧ fullWindow.curOp = .rx ∧ fullWindow.params.clkBits = none ∧
      fullWindow.params.rxWindow = 4000 ∧ fullWindow.params.timing = Config.timing :=
  ⟨test_inv_rx, rfl, rfl, rfl, rfl, rfl⟩

/-- The results change in the last tick of a window and in the acceptance tick of CHECK_PARITY and of RECEIVE. -/
theorem test_meets_Results :
    (∃ t, step (rxState [] .low 3999 (rxRegs 0x12#64 8 false 3205 false)) = .next t ∧ t.unspec = false ∧
      t.rxData ≠ 0#64 ∧ t.resultOk ≠ false) ∧
    (∃ t, step (idleState [raw 0x06#8 0x12#64] .low) = .next t ∧ t.unspec = false ∧ t.resultOk ≠ false) ∧
    (∃ t, step { idleState [raw 0x02#8 0#64] .high with rxData := 1#64, resultOk := true } = .next t ∧ t.unspec = false ∧
      t.rxData ≠ 1#64 ∧ t.resultOk ≠ true) :=
  ⟨⟨_, rfl, rfl, by decide, by decide⟩, ⟨_, rfl, rfl, by decide⟩, ⟨_, rfl, rfl, by decide, by decide⟩⟩

theorem test_meets_OutLine :
    (∃ t, step (idleState [raw 0x01#8 0#64] .low) = .next t ∧ t.outLine ≠ .low) ∧
      (∃ t, step (txState [] 0#7 0#12) = .next t ∧ t.outLine ≠ .low) ∧
      (hostPins (txState [.pins HostPins.reset] 0#7 0#12)).rst = true :=
  ⟨⟨_, rfl, by decide⟩, ⟨_, rfl, by decide⟩, rfl⟩

theorem test_meets_InLine :
    (txState [] 0#7 0#12).curOp ≠ .rx ∧ (∀ w, offered (txState [] 0#7 0#12) = some w → decode w ≠ .ok .receive) ∧
      ∃ t, step (setLine [.high] (txState [] 0#7 0#12)) = .next t := by
  refine ⟨by decide, ?_, ⟨_, rfl⟩⟩
  intro w h
  cases h

theorem test_meets_Now :
    (rxState [] .high 700 (rxRegs 0#64 0 false 0 false)).params.clkBits = none ∧
      (hostPins (rxState [] .high 700 (rxRegs 0#64 0 false 0 false))).rst = false ∧
      ∃ t, step (rxState [] .high 700 (rxRegs 0#64 0 false 0 false)) = .next t ∧ t.unspec = false :=
  ⟨rfl, rfl, ⟨_, rfl, rfl⟩⟩

theorem test_meets_Elapsed :
    (hostPins (idleState [] .low)).rst = false ∧ (idleState [] .low).params.clkBits = none ∧
      Params.clkBits { testParams with clkBits := some 4 } = some 4 ∧
      (hostPins { idleState [] .low with params := { testParams with clkBits := some 4 }, now := 15 }).rst = false ∧
      (15 : Nat) < 2 ^ 4 := by decide

/-- The closed form of a frame: the lowest and the highest top nibble. -/
theorem test_meets_FrameClosedForm :
    (nib 0x1#64 0 ≠ 0#4 ∧ ∀ j, 0 < j → j < 16 → nib 0x1#64 j = 0#4) ∧
      (nib 0x8000000000000000#64 15 ≠ 0#4 ∧ ∀ j, 15 < j → j < 16 → nib 0x8000000000000000#64 j = 0#4) := by
  refine ⟨⟨by decide, ?_⟩, by decide, ?_⟩
  · intro j h1 h2; interval_cases j <;> decide
  · intro j h1 h2; omega

theorem test_meets_FrameBits :
    (frameNibbles 0x12#64)[0]? = some 1#4 ∧ (frameNibbles 0x12#64)[2]? = some 4#4 ∧
      1 ≤ Config.timing.bitPeriod ∧ 47999 < Config.timing.bitPeriod * (frameBits 0x100#64).length := by decide

/-- One tick of a frame: within a bit, at the end of a bit, at the end of the frame. -/
theorem test_meets_TransmitEngine :
    (txState [] 7#7 2999#12).curOp = .tx ∧ (txState [] 7#7 2999#12).unspec = false ∧
      (hostPins (txState [] 7#7 2999#12)).rst = false ∧ offered (txState [] 7#7 2999#12) = none ∧
      (txState [] 7#7 2999#12).tx.bits[(txState [] 7#7 2999#12).tx.k.toNat]? = some false ∧
      (txState [] 3#7 2999#12).tx.bits[(txState [] 3#7 2999#12).tx.k.toNat]? = some true ∧
      (txState [] 0#7 600#12).tx.bits[(txState [] 0#7 600#12).tx.k.toNat]? = some false := by decide

/-- A SEND whose first and last tick are meant, and as a program with WAITIDLE. -/
theorem test_meets_Send :
    accepting (idleState [offerOf (.send 0x1#64)] .low) = true ∧
      (idleState [offerOf (.send 0x1#64)] .low).host = [offerOf (.send 0x1#64)] ∧
      (idleState [offerOf (.send 0x1#64)] .low).params.wellFormed = true ∧
      0 < Config.timing.t0Low ∧ 0 < Config.timing.t1Low ∧
      (idleState [offerOf (.send 0x1#64)] .low).params.timing = Config.timing ∧
      0 < Config.timing.bitPeriod * (frameBits 0x1#64).length ∧ 23999 < Config.timing.bitPeriod * (frameBits 0x1#64).length ∧
      accepting (idleState [offerOf (.send 0x1#64), .waitIdle] .low) = true ∧
      24000 = (idleState [offerOf (.send 0x1#64), .waitIdle] .low).params.timing.bitPeriod * (frameBits 0x1#64).length := by
  decide

theorem test_meets_Classify : Config.timing.rxT0Min ≤ Config.timing.rxT0Max := by decide

/-- A run of no tick, and one that goes on for a tick. -/
theorem test_meets_RunEnds :
    observe 0 (idleState [] .low) = some ⟨[], ⟨false, false, 0#64, false, 0#2⟩⟩ ∧
      observe 1 (idleState [raw 0x06#8 0xF0#64] .low) = some ⟨[.low], ⟨false, true, 0#64, false, 0#2⟩⟩ ∧
      (∃ t, Sys2Proof.core.run 1 (idleState [raw 0x06#8 0xF0#64] .low) = .next t ∧
        t.host.all HostAct.quiet = true ∧ t.busy = false) :=
  ⟨rfl, rfl, _, rfl, rfl, rfl⟩

/-- R234, R205: a reset after the last command does not put the end of the run off, and one before it redeems nothing. -/
theorem test_run_keeps_its_fault :
    (observe 3 (idleState [raw 0x07#8 0#64, .pins HostPins.reset] .low)).map (fun o => (o.trace, o.final.fault)) =
        some ([.low], true) ∧
      goodRun 3 (idleState [raw 0x07#8 0#64, .pins HostPins.reset] .low) = false ∧
      goodRun 5 (idleState [raw 0x07#8 0#64, .pins HostPins.reset, raw 0x06#8 0#64] .low) = false ∧
      goodRun 5 (idleState [raw 0x06#8 0#64] .low) = true := by decide

/-- One tick of a window: inside it and its last tick. -/
theorem test_meets_ReceiveEngine :
    (rxState [] .high 600 (rxRegs 0#64 0 false 0 false)).curOp = .rx ∧
      (rxState [] .high 600 (rxRegs 0#64 0 false 0 false)).unspec = false ∧
      (hostPins (rxState [] .high 600 (rxRegs 0#64 0 false 0 false))).rst = false ∧
      offered (rxState [] .high 600 (rxRegs 0#64 0 false 0 false)) = none ∧
      600 - 0 + 1 ≠ (rxState [] .high 600 (rxRegs 0#64 0 false 0 false)).params.rxWindow ∧
      3999 - 0 + 1 = (rxState [] .low 3999 (rxRegs 1#64 4 false 3205 false)).params.rxWindow ∧
      checkParity 1#64 = true ∧ checkParity 0#64 = false := by decide

/-- A RECEIVE with windows of one and of 4000 ticks. -/
theorem test_meets_ReceiveLasts :
    accepting (idleState [offerOf .receive] .low) = true ∧
      (idleState [offerOf .receive] .low).host = [offerOf .receive] ∧ sample (idleState [offerOf .receive] .low) = .low ∧
      (idleState [offerOf .receive] .low).params.wellFormed = true ∧
      Params.wellFormed { testParams with rxWindow := 1, clkBits := some 0 } = true ∧
      Params.wellFormed { testParams with clkBits := some 12 } = true := by decide

/-- Two receivers that see the same window of one tick and differ in what they hold. -/
def shortWindow (rxData : Message) : State :=
  { idleState [offerOf .receive] .low with params := { testParams with rxWindow := 1 }, rxData := rxData }

theorem test_meets_ReceiveDepends :
    accepting (shortWindow 1#64) = true ∧ accepting (shortWindow 2#64) = true ∧
      (shortWindow 1#64).params.wellFormed = true ∧ (shortWindow 2#64).params.wellFormed = true ∧
      (shortWindow 1#64).params.timing = (shortWindow 2#64).params.timing ∧
      (shortWindow 1#64).params.rxWindow = (shortWindow 2#64).params.rxWindow ∧
      (shortWindow 1#64).params.rxWindow ≤ (shortWindow 1#64).line.length ∧
      (shortWindow 1#64).line.take 1 = (shortWindow 2#64).line.take 1 ∧
      (∃ t, Sys2Proof.core.run 1 (shortWindow 1#64) = .next t) ∧ (∃ t, Sys2Proof.core.run 1 (shortWindow 2#64) = .next t) :=
  ⟨by decide, by decide, by decide, by decide, rfl, by decide, by decide, by decide, ⟨_, rfl⟩, ⟨_, rfl⟩⟩

/-- A transmitter and a receiver joined by an inverter. -/
def sender (m : Message) : State := idleState [offerOf (.send m)] .low

/-- The receiver of `sender m` that starts `d` ticks after it, with window `w`. -/
def receiver (m : Message) (d w : Nat) (mode : DeadzoneMode) : State :=
  { idleState [offerOf .receive] .low with
    params := { testParams with rxWindow := w, deadzone := mode }
    line := ((lineTrace (d + w) (sender m)).drop d).map Level.flip }

/-- V-RX-15, V-RX-17, V-RX-18: the round trip's conditions at their boundaries. -/
theorem test_meets_RoundTrip :
    accepting (sender 0x12#64) = true ∧ accepting (receiver 0x12#64 0 33601 .edge) = true ∧
      (receiver 0x12#64 0 33601 .edge).params.wellFormed = true ∧ (sender 0x12#64).params.timing = Config.timing ∧
      (receiver 0x12#64 0 33601 .edge).params.timing = Config.timing ∧
      (0x0FFFFFFFFFFFFFFF#64).toNat < 2 ^ 60 ∧
      (frameBits 0x12#64).headD false = false ∧ (frameBits 0x8#64).headD false = true ∧
      3000 * ((frameBits 0x12#64).length - 1) + highTime Config.timing ((frameBits 0x12#64).getLastD false) < 0 + 33601 ∧
      3000 * ((frameBits 0x12#64).length - 1) + highTime Config.timing ((frameBits 0x12#64).getLastD false) < 599 + 33002 ∧
      3000 * ((frameBits 0x8#64).length - 1) + highTime Config.timing ((frameBits 0x8#64).getLastD false) < 399 + 40000 := by decide

theorem receiver_line (m : Message) (d w : Nat) (mode : DeadzoneMode) :
    (receiver m d w mode).line =
      ((lineTrace (d + (receiver m d w mode).params.rxWindow) (sender m)).drop d).map Level.flip :=
  rfl

theorem test_meets_RoundTrip_line :
    (receiver 0x12#64 599 33002 .level).line =
      ((lineTrace (599 + (receiver 0x12#64 599 33002 .level).params.rxWindow) (sender 0x12#64)).drop 599).map Level.flip :=
  receiver_line 0x12#64 599 33002 .level

/-- V-RX-14: the smallest message with a nonzero nibble 15. -/
theorem test_meets_TopNibble :
    2 ^ 60 ≤ (0x1000000000000000#64).toNat ∧ (frameBits 0x1000000000000000#64).headD false = false ∧
      3000 * ((frameBits 0x1000000000000000#64).length - 1) +
        highTime Config.timing ((frameBits 0x1000000000000000#64).getLastD false) < 0 + 201601 := by decide

/-- P4, V-RX-1: the default window, at the start of the frame and while the line is idle. -/
theorem test_meets_DefaultWindow :
    accepting (sender 0x12#64) = true ∧ accepting (receiver 0x12#64 0 4000 .level) = true ∧
      (receiver 0x12#64 0 4000 .level).params.rxWindow = 4000 ∧
      (receiver 0x12#64 40000 4000 .level).params.wellFormed = true ∧
      (receiver 0x12#64 40000 4000 .level).params.timing = Config.timing ∧
      (receiver 0x12#64 40000 4000 .level).line = ((lineTrace (40000 + 4000) (sender 0x12#64)).drop 40000).map Level.flip :=
  ⟨by decide, by decide, rfl, by decide, rfl, receiver_line 0x12#64 40000 4000 .level⟩

theorem test_meets_ReceiverAcceptsParity :
    nib 0x0FFFFFFFFFFFFFFF#64 15 = 0#4 ∧ (frameNibbles 0x0FFFFFFFFFFFFFFF#64).getLast? = some 0#4 := by decide

theorem test_meets_FieldInsertion : (0xFFFFFFFFFFFFFFFF : Nat) < 2 ^ 64 ∧ (63 : Nat) < 64 := by decide

theorem test_meets_Digit : nib 0xF0F#64 1 = 0#4 ∧ (15 : Nat) ≤ 15 := by decide

end Sys2Proof.Tests
end

section
/-! PROOFS. What the receiver assembles from the bits of a frame (R53, R144, R148). -/

namespace Sys2Proof.Machine

/-- The bits of a number moved up by the width of `v`, with `v` at the low end. -/
theorem getLsbD_shiftLeft_or_setWidth {w k : Nat} (x : Message) (v : BitVec w) (hk : k < 64) :
    ((x <<< w) ||| v.setWidth 64).getLsbD k = if k < w then v.getLsbD k else x.getLsbD (k - w) := by
  rw [BitVec.getLsbD_or, BitVec.getLsbD_shiftLeft, BitVec.getLsbD_setWidth]
  split
  next h => simp [h, hk]
  next h => simp [h, hk, BitVec.getLsbD_of_ge v k (by omega)]

/-! One received bit -/

@[simp] theorem rxPush_sr (b : Bool) (r : RxRegs) :
    (rxPush b r).sr = (r.sr <<< 1) ||| (BitVec.ofBool b).setWidth 64 := rfl

@[simp] theorem rxPush_cnt (b : Bool) (r : RxRegs) : (rxPush b r).cnt = r.cnt + 1 := rfl

theorem getLsbD_rxPush {k : Nat} (b : Bool) (r : RxRegs) (hk : k < 64) :
    (rxPush b r).sr.getLsbD k = if k < 1 then b else r.sr.getLsbD (k - 1) := by
  rw [rxPush_sr, getLsbD_shiftLeft_or_setWidth _ _ hk]
  split
  next h => simp [Nat.lt_one_iff.mp h]
  next => rfl

/-! A list of received bits -/

/-- The receive registers after these bits, received in order. -/
def receiveBits (bs : List Bool) (r : RxRegs) : RxRegs := bs.foldl (fun r b => rxPush b r) r

@[simp] theorem receiveBits_nil (r : RxRegs) : receiveBits [] r = r := rfl

@[simp] theorem receiveBits_cons (b : Bool) (bs : List Bool) (r : RxRegs) :
    receiveBits (b :: bs) r = receiveBits bs (rxPush b r) := rfl

theorem receiveBits_append (bs cs : List Bool) (r : RxRegs) :
    receiveBits (bs ++ cs) r = receiveBits cs (receiveBits bs r) :=
  List.foldl_append

theorem receiveBits_cnt (bs : List Bool) (r : RxRegs) : (receiveBits bs r).cnt = r.cnt + bs.length := by
  induction bs generalizing r with
  | nil => rfl
  | cons b bs ih => rw [receiveBits_cons, ih, rxPush_cnt, List.length_cons]; omega

/-! A received nibble -/

/-- The bits of a nibble, received in wire order, enter as its number. -/
theorem receiveBits_nibbleBits_sr (v : Nibble) (r : RxRegs) :
    (receiveBits (nibbleBits v) r).sr = (r.sr <<< 4) ||| v.setWidth 64 := by
  apply BitVec.eq_of_getLsbD_eq
  intro k (hk : k < 64)
  rw [getLsbD_shiftLeft_or_setWidth _ _ hk]
  match k with
  | 0 | 1 | 2 | 3 => simp [nibbleBits]
  | k + 4 =>
    simp only [nibbleBits, receiveBits_cons, receiveBits_nil]
    iterate 4 rw [getLsbD_rxPush _ _ (by omega)]
    simp

/-- R8: the number that the nibbles from position `n` up spell is the one from position `n + 1` up with nibble `n` put
at its low end. -/
theorem ushiftRight_eq_append_nib (m : Message) (n : Nat) :
    m >>> (4 * n) = ((m >>> (4 * (n + 1))) <<< 4) ||| (nib m n).setWidth 64 := by
  apply BitVec.eq_of_getLsbD_eq
  intro k hk
  rw [getLsbD_shiftLeft_or_setWidth _ _ hk, getLsbD_nib, BitVec.getLsbD_ushiftRight, BitVec.getLsbD_ushiftRight]
  split
  next h => simp [h]
  next h => rw [show 4 * (n + 1) + (k - 4) = 4 * n + k by omega]

/-! A received frame -/

/-- R53, R121: a receiver that has the number of the nibbles from position `n` up gets, from the rest of the scan, the
whole message and the parity nibble; it may have been sent nothing as long as that number is 0. -/
theorem receiveBits_frameScan_sr (m : Message) (n : Nat) (acc : Nibble) (started : Bool) (r : RxRegs)
    (hsr : r.sr = m >>> (4 * n)) (hstart : started = false → r.sr = 0#_) :
    ∃ p : Nibble, (frameScan m n acc started).getLast? = some p ∧
      (receiveBits ((frameScan m n acc started).flatMap nibbleBits) r).sr = (m <<< 4) ||| p.setWidth 64 := by
  induction n generalizing acc started r with
  | zero =>
    refine ⟨acc + 1#4, rfl, ?_⟩
    have hm : r.sr = m := by simpa using hsr
    simp [receiveBits_nibbleBits_sr, hm]
  | succ n ih =>
    have hnib := ushiftRight_eq_append_nib m n
    rw [← hsr] at hnib
    rw [frameScan_succ]
    split
    next hsent =>
      have hsr' : (receiveBits (nibbleBits (nib m n)) r).sr = m >>> (4 * n) := by
        rw [receiveBits_nibbleBits_sr, hnib]
      obtain ⟨p, hlast, hval⟩ := ih (acc ^^^ nib m n) _ _ hsr' fun hf => absurd (hsent.symm.trans hf) (by decide)
      refine ⟨p, ?_, ?_⟩
      · rw [List.getLast?_cons, hlast, Option.getD_some]
      · rw [List.flatMap_cons, receiveBits_append, hval]
    next hskip =>
      obtain ⟨hst, hzero⟩ : started = false ∧ nib m n = 0#4 := by simpa using hskip
      have hr : r.sr = 0#_ := hstart hst
      have hsr' : r.sr = m >>> (4 * n) := by simp [hnib, hr, hzero]
      exact ih _ _ r hsr' fun _ => hr

/-- R53, R148: what empty registers hold after a frame. -/
theorem receiveBits_frameBits_sr (m : Message) :
    ∃ p : Nibble, (frameNibbles m).getLast? = some p ∧
      (receiveBits (frameBits m) RxRegs.reset).sr = (m <<< 4) ||| p.setWidth 64 := by
  have hempty : RxRegs.reset.sr = m >>> (4 * Config.nibPositions) :=
    (BitVec.ushiftRight_eq_zero (x := m) (by decide)).symm
  exact receiveBits_frameScan_sr m Config.nibPositions 0#4 false RxRegs.reset hempty fun _ => rfl

theorem receiveBits_reset_cnt (bs : List Bool) : (receiveBits bs RxRegs.reset).cnt = bs.length := by
  rw [receiveBits_cnt, show RxRegs.reset.cnt = 0 from rfl, Nat.zero_add]

/-- Settles O46: the scan of the transmitter and the shifts of the receiver go through the message nibble by nibble. -/
theorem frameBitsAssembleTheFrameValue : Obligations.FrameBitsAssembleTheFrameValue := by
  refine ⟨fun b r => ⟨getLsbD_rxPush b r (by decide), fun k hk => getLsbD_rxPush b r (by omega)⟩, fun m => ?_⟩
  obtain ⟨p, hlast, hval⟩ := receiveBits_frameBits_sr m
  exact ⟨p, hlast, hval, receiveBits_reset_cnt (frameBits m)⟩

end Sys2Proof.Machine
end

section
/-! PROOFS. The decoder reads the fields R81 names. -/

namespace Sys2Proof

/-- Settles O3: a command word holds its `CMD` and its `ARG` apart, and each `CMD` selects its row of R81. -/
theorem decodeReadsTheNamedFields : Obligations.DecodeReadsTheNamedFields := by
  intro arg
  simp only [decode, cmdOf_wordOf, argOf_wordOf]
  exact ⟨rfl, rfl, rfl, rfl, rfl, rfl⟩

end Sys2Proof
end

section
/-! PROOFS. Host text and host script: what a line makes the host do, and what an action does in its tick (R86, R87). -/

namespace Sys2Proof.Machine

/-- R86: the script of a line whose operands are in their ranges. -/
theorem assembleLine_of_wellFormed {l : Line} (h : l.wellFormed = true) :
    assembleLine l = .ok (((lineInstr l).map offerOf).toList ++ lineTail l) := by
  rw [assembleLine, if_pos h]

/-- R87: an action that waits drives neither `rst` nor a command in its tick. -/
theorem host_of_waiting {s : State} {rest : List HostAct}
    (h : hostTick s.busy s.host = (HostPins.silent, rest)) :
    (hostPins s).rst = false ∧ offered s = none ∧ hostRest s = rest := by
  have hpins : hostPins s = HostPins.silent := congrArg Prod.fst h
  exact ⟨by rw [hpins, silent_rst], offered_of_not_valid (by rw [hpins, silent_cmdValid]), congrArg Prod.snd h⟩

/-- R87: an action that takes no tick leaves the tick to the rest of the script. -/
theorem host_of_skipped {s : State} {acts : List HostAct} (h : hostTick s.busy s.host = hostTick s.busy acts) :
    hostPins s = hostPins (setHost acts s) ∧ hostRest s = hostRest (setHost acts s) :=
  ⟨congrArg Prod.fst h, congrArg Prod.snd h⟩

/-- R87: `WAITIDLE` while `BUSY` reads 1. -/
theorem waitIdle_stays_of_busy {s : State} {acts : List HostAct} (h : s.host = .waitIdle :: acts)
    (hbusy : s.busy = true) : (hostPins s).rst = false ∧ offered s = none ∧ hostRest s = s.host :=
  host_of_waiting (by rw [h, hbusy, hostTick_waitIdle_busy])

/-- R87: `WAITIDLE` where `BUSY` reads 0. -/
theorem waitIdle_skipped_of_idle {s : State} {acts : List HostAct} (h : s.host = .waitIdle :: acts)
    (hbusy : s.busy = false) :
    hostPins s = hostPins (setHost acts s) ∧ hostRest s = hostRest (setHost acts s) :=
  host_of_skipped (by rw [h, hbusy, hostTick_waitIdle_idle])

/-- R87: one tick of a `DELAY`. -/
theorem delay_succ_counts_down {s : State} {n : Nat} {acts : List HostAct} (h : s.host = .delay (n + 1) :: acts) :
    (hostPins s).rst = false ∧ offered s = none ∧ hostRest s = .delay n :: acts :=
  host_of_waiting (by rw [h, hostTick_delay_succ])

/-- R87: a `DELAY` that is over. -/
theorem delay_zero_skipped {s : State} {acts : List HostAct} (h : s.host = .delay 0 :: acts) :
    hostPins s = hostPins (setHost acts s) ∧ hostRest s = hostRest (setHost acts s) :=
  host_of_skipped (by rw [h, hostTick_delay_zero])

/-- Settles O7: one rule for each action of a host script, and the scripts of the four pseudo-instructions. -/
theorem pseudoInstructionsAreHostBehaviour : Obligations.PseudoInstructionsAreHostBehaviour := by
  refine ⟨?pins, ?waitIdle, fun s n acts h => delay_succ_counts_down h, fun s acts h => delay_zero_skipped h,
    ?sendw, assembleLine_of_wellFormed rfl, assembleLine_of_wellFormed rfl, fun n => assembleLine_of_wellFormed rfl⟩
  case pins =>
    intro s p acts h
    exact ⟨by rw [hostPins_of_host h, hostTick_pins], by rw [hostRest_of_host h, hostTick_pins]⟩
  case waitIdle =>
    intro s acts h
    exact ⟨waitIdle_stays_of_busy h, waitIdle_skipped_of_idle h⟩
  case sendw =>
    intro m hm
    exact assembleLine_of_wellFormed (decide_eq_true hm)

end Sys2Proof.Machine
end

section
/-! PROOFS. The frame of a message in closed form (R72, R121 to R124). -/

namespace Sys2Proof.Machine

/-- The nibbles of `m` below position `n`, the most significant first. -/
def nibblesDown (m : Message) (n : Nat) : List Nibble := (List.range n).reverse.map (nib m)

/-- R123: the XOR of `acc` and the nibbles of `m` below position `n`. -/
def xorBelow (m : Message) (n : Nat) (acc : Nibble) : Nibble :=
  (List.range n).foldr (fun i a => nib m i ^^^ a) acc

@[simp] theorem nibblesDown_zero (m : Message) : nibblesDown m 0 = [] := rfl

@[simp] theorem nibblesDown_succ (m : Message) (n : Nat) :
    nibblesDown m (n + 1) = nib m n :: nibblesDown m n := by
  simp [nibblesDown, List.range_succ]

@[simp] theorem nibblesDown_length (m : Message) (n : Nat) : (nibblesDown m n).length = n := by
  simp [nibblesDown]

@[simp] theorem xorBelow_zero (m : Message) (acc : Nibble) : xorBelow m 0 acc = acc := rfl

@[simp] theorem xorBelow_succ (m : Message) (n : Nat) (acc : Nibble) :
    xorBelow m (n + 1) acc = xorBelow m n (acc ^^^ nib m n) := by
  simp [xorBelow, List.range_succ, BitVec.xor_comm]

/-! The scan of the transmitter -/

/-- R121: once emission has started, the scan sends every nibble and then the parity. -/
theorem frameScan_started (m : Message) (n : Nat) (acc : Nibble) :
    frameScan m n acc true = nibblesDown m n ++ [xorBelow m n acc + 1#4] := by
  induction n generalizing acc with
  | zero => rfl
  | succ n ih => simp [frameScan_succ, ih]

/-- R121: before it has started, the scan leaves out the leading zero nibbles. -/
theorem frameScan_not_started (m : Message) (n : Nat) (acc : Nibble) :
    frameScan m n acc false = (nibblesDown m n).dropWhile (· = 0#4) ++ [xorBelow m n acc + 1#4] := by
  induction n generalizing acc with
  | zero => rfl
  | succ n ih =>
    by_cases h : nib m n = 0#4
    · simp [frameScan_succ, h, ih]
    · simp [frameScan_succ, h, frameScan_started]

/-- R72, R121: the frame of any message. -/
theorem frameNibbles_eq (m : Message) :
    frameNibbles m = (nibblesDown m 17).dropWhile (· = 0#4) ++ [xorBelow m 17 0#4 + 1#4] :=
  frameScan_not_started m 17 0#4

/-- The leading zeros of a message end at its most significant nonzero nibble. -/
theorem dropWhile_nibblesDown {m : Message} {n k : Nat} (hn : nib m n ≠ 0#4)
    (hzero : ∀ j, n < j → j < n + 1 + k → nib m j = 0#4) :
    (nibblesDown m (n + 1 + k)).dropWhile (· = 0#4) = nibblesDown m (n + 1) := by
  induction k with
  | zero => simp [hn]
  | succ k ih =>
    have htop : nib m (n + 1 + k) = 0#4 := hzero _ (by omega) (by omega)
    rw [← Nat.add_assoc, nibblesDown_succ, List.dropWhile_cons_of_pos (by simp [htop])]
    exact ih fun j hj hjk => hzero j hj (by omega)

/-- R122: four bits a nibble. -/
theorem frameBits_length (m : Message) : (frameBits m).length = 4 * (frameNibbles m).length := by
  simp [frameBits, List.length_flatMap, Nat.mul_comm]

/-- R72: the frame of a message whose most significant nonzero nibble stands at position `n`. -/
theorem frameNibbles_of_top_nibble {m : Message} {n : Nat} (hlt : n < 16) (hn : nib m n ≠ 0#4)
    (hzero : ∀ j, n < j → j < 16 → nib m j = 0#4) :
    frameNibbles m = nibblesDown m (n + 1) ++ [xorBelow m 17 0#4 + 1#4] := by
  have habove : ∀ j, n < j → j < n + 1 + (16 - n) → nib m j = 0#4 := fun j hj _ =>
    (Nat.lt_or_ge j 16).elim (hzero j hj) nib_of_le
  have hdrop := dropWhile_nibblesDown hn habove
  rw [show n + 1 + (16 - n) = 17 by omega] at hdrop
  rw [frameNibbles_eq, hdrop]

/-- Settles O34: the scan leaves out the leading zeros of the nibbles 16 to 0 and ends with their XOR plus one. -/
theorem frameClosedForm : Obligations.FrameClosedForm := by
  refine ⟨⟨by decide, by decide⟩, fun m n hlt hn hzero => ?_⟩
  have hframe := frameNibbles_of_top_nibble hlt hn hzero
  have hlen : (frameBits m).length = 4 * (n + 2) := by rw [frameBits_length, hframe]; simp
  exact ⟨hframe, hlen, by omega, by omega⟩

end Sys2Proof.Machine
end

section
/-! PROOFS. The classifier's bands (R106, R107). -/

namespace Sys2Proof.Machine

/-- R106, R107: the bands share no time and leave none out. -/
theorem classify_bands {tm : Timing} (h : tm.rxT0Min ≤ tm.rxT0Max) (e : Nat) :
    (classify tm e = none ↔ e < tm.rxT0Min) ∧
    (classify tm e = some false ↔ tm.rxT0Min ≤ e ∧ e ≤ tm.rxT0Max) ∧
    (classify tm e = some true ↔ tm.rxT0Max < e) := by
  unfold classify
  split
  next hdead => exact ⟨iff_of_true rfl hdead, iff_of_false nofun (by omega), iff_of_false nofun (by omega)⟩
  next hlive =>
    split
    next hzero => exact ⟨iff_of_false nofun hlive, iff_of_true rfl (by omega), iff_of_false nofun (by omega)⟩
    next hone => exact ⟨iff_of_false nofun hlive, iff_of_false nofun (by omega), iff_of_true rfl (by omega)⟩

/-- Settles O41: the bands of every timing, and of the source's. -/
theorem classifyBands : Obligations.ClassifyBands :=
  ⟨fun _ e h => classify_bands h e, fun e => classify_bands (tm := Config.timing) (by decide) e⟩

end Sys2Proof.Machine
end

section
/-! PROOFS. A frame on the line, tick by tick: what the transmitter holds and drives at tick `n` of a SEND (R103, R126). -/

namespace Sys2Proof.Machine

/-! The ticks of a bit period -/

/-- A tick that is not the last of its bit period is followed by the next one of the same bit. -/
theorem succ_within_period {p n : Nat} (hp : 1 ≤ p) (h : n % p ≠ p - 1) :
    (n + 1) / p = n / p ∧ (n + 1) % p = n % p + 1 := by
  have hlt : n % p < p := Nat.mod_lt n hp
  have hn : n + 1 = n % p + 1 + p * (n / p) := by have := Nat.mod_add_div n p; omega
  constructor
  · rw [hn, Nat.add_mul_div_left _ _ hp, Nat.div_eq_of_lt (by omega), Nat.zero_add]
  · rw [hn, Nat.add_mul_mod_self_left, Nat.mod_eq_of_lt (by omega)]

/-- The last tick of a bit period is followed by the first one of the next bit. -/
theorem succ_at_period_end {p n : Nat} (hp : 1 ≤ p) (h : n % p = p - 1) : n + 1 = p * (n / p + 1) := by
  have := Nat.mod_add_div n p
  rw [Nat.mul_succ]
  omega

/-! The transmit registers in a frame -/

/-- R122, R124: the bits of a frame fit `tx_len` (R32). -/
theorem frameBits_length_bounds (m : Message) : 4 ≤ (frameBits m).length ∧ (frameBits m).length ≤ 68 := by
  have htop : (nibblesDown m 17).dropWhile (· = 0#4) = (nibblesDown m 16).dropWhile (· = 0#4) :=
    List.dropWhile_cons_of_pos (by simp)
  have hle : ((nibblesDown m 16).dropWhile (· = 0#4)).length ≤ 16 := by
    simpa using (List.dropWhile_sublist (· = 0#4) (l := nibblesDown m 16)).length_le
  rw [frameBits_length, frameNibbles_eq, htop, List.length_append, List.length_singleton]
  omega

/-- R126: the transmit registers at tick `n` of the frame of `m`, with bit periods of `p` ticks. -/
def frameRegs (m : Message) (p n : Nat) : TxRegs :=
  { bits := frameBits m, len := BitVec.ofNat 7 (frameBits m).length
    k := BitVec.ofNat 7 (n / p), phi := BitVec.ofNat 12 (n % p) }

/-- R103: the level of the line in tick `n` of the frame of `m`. -/
def frameLevel (tm : Timing) (m : Message) (n : Nat) : Level :=
  sendBit tm ((frameBits m).getD (n / tm.bitPeriod) false) (n % tm.bitPeriod)

theorem frameRegs_phi_toNat (m : Message) {p : Nat} (n : Nat) (hp : 1 ≤ p) (hfit : p ≤ 2 ^ 12) :
    (frameRegs m p n).phi.toNat = n % p := by
  have hlt : n % p < p := Nat.mod_lt n hp
  simp only [frameRegs, BitVec.toNat_ofNat]
  exact Nat.mod_eq_of_lt (by omega)

theorem frameRegs_k_toNat {m : Message} {p n : Nat} (h : n / p < (frameBits m).length) :
    (frameRegs m p n).k.toNat = n / p := by
  have hle := (frameBits_length_bounds m).2
  simp only [frameRegs, BitVec.toNat_ofNat]
  exact Nat.mod_eq_of_lt (by omega)

/-- R126: the engine is at the last bit of the frame exactly where one more bit would be past it. -/
theorem frameRegs_last_bit_iff {m : Message} {p n : Nat} (h : n / p < (frameBits m).length) :
    (frameRegs m p n).k = (frameRegs m p n).len - 1#7 ↔ n / p + 1 = (frameBits m).length := by
  obtain ⟨hge, hle⟩ := frameBits_length_bounds m
  have hk := frameRegs_k_toNat h
  have hlen : (frameRegs m p n).len.toNat = (frameBits m).length := by
    simp only [frameRegs, BitVec.toNat_ofNat]
    exact Nat.mod_eq_of_lt (by omega)
  generalize (frameRegs m p n).k = k at *
  generalize (frameRegs m p n).len = len at *
  bv_omega

/-- R126: the registers of the next tick of the same bit. -/
theorem frameRegs_succ_within_period (m : Message) {p n : Nat} (hp : 1 ≤ p) (h : n % p ≠ p - 1) :
    { frameRegs m p n with phi := (frameRegs m p n).phi + 1#12 } = frameRegs m p (n + 1) := by
  obtain ⟨hdiv, hmod⟩ := succ_within_period hp h
  simp only [frameRegs, hdiv, hmod, BitVec.ofNat_add]

/-- R126: the registers of the first tick of the next bit. -/
theorem frameRegs_succ_at_period_end (m : Message) {p n : Nat} (hp : 1 ≤ p) (h : n % p = p - 1) :
    { frameRegs m p n with phi := 0#12, k := (frameRegs m p n).k + 1#7 } = frameRegs m p (n + 1) := by
  have hn := succ_at_period_end hp h
  have hdiv : (n + 1) / p = n / p + 1 := by rw [hn, Nat.mul_div_cancel_left _ hp]
  have hmod : (n + 1) % p = 0 := by rw [hn, Nat.mul_mod_right]
  simp only [frameRegs, hdiv, hmod, BitVec.ofNat_add]

/-- R103, R126: the engine drives the level of its tick of the frame. -/
theorem sendBit_of_frameRegs {s : State} {m : Message} {n : Nat} (hp : 1 ≤ s.params.timing.bitPeriod)
    (hfit : s.params.timing.bitPeriod ≤ 2 ^ 12) (htx : s.tx = frameRegs m s.params.timing.bitPeriod n)
    (hn : n / s.params.timing.bitPeriod < (frameBits m).length) :
    sendBit s.params.timing (txBit s) s.tx.phi.toNat = frameLevel s.params.timing m n := by
  have hbit : txBit s = (frameBits m).getD (n / s.params.timing.bitPeriod) false := by
    rw [txBit, htx, frameRegs_k_toNat hn]
    simp [frameRegs, List.getD_eq_getElem?_getD, List.getElem?_eq_getElem hn]
  rw [hbit, htx, frameRegs_phi_toNat m n hp hfit, frameLevel]

/-- R126: the engine's step at tick `n` of a frame: the next tick of the frame, or its end. -/
theorem txTick_of_frameRegs {s : State} {m : Message} {n : Nat} (hp : 1 ≤ s.params.timing.bitPeriod)
    (hfit : s.params.timing.bitPeriod ≤ 2 ^ 12) (htx : s.tx = frameRegs m s.params.timing.bitPeriod n)
    (hn : n < s.params.timing.bitPeriod * (frameBits m).length) :
    txTick s =
      if n + 1 < s.params.timing.bitPeriod * (frameBits m).length then
        drive (frameLevel s.params.timing m n) (setTx (frameRegs m s.params.timing.bitPeriod (n + 1)) s)
      else drive (frameLevel s.params.timing m n) (complete (setTx { s.tx with phi := 0#12 } s)) := by
  have hk : n / s.params.timing.bitPeriod < (frameBits m).length := Nat.div_lt_of_lt_mul hn
  have hlevel := sendBit_of_frameRegs hp hfit htx hk
  have hphi := frameRegs_phi_toNat m n hp hfit
  have hlast := frameRegs_last_bit_iff hk
  rw [← htx] at hphi hlast
  rcases txTick_cases s with ⟨hmid, heq⟩ | ⟨hend, hmore, heq⟩ | ⟨hend, hdone, heq⟩
  · rw [hphi] at hmid
    have hnext : n + 1 < s.params.timing.bitPeriod * (frameBits m).length := by
      rw [Nat.mul_comm, ← Nat.div_lt_iff_lt_mul hp, (succ_within_period hp hmid).1]
      exact hk
    rw [heq, hlevel, if_pos hnext, htx, frameRegs_succ_within_period m hp hmid]
  · rw [hphi] at hend
    have hnext : n + 1 < s.params.timing.bitPeriod * (frameBits m).length := by
      rw [succ_at_period_end hp hend]
      exact Nat.mul_lt_mul_of_pos_left (by have := mt hlast.2 hmore; omega) hp
    rw [heq, hlevel, if_pos hnext, htx, frameRegs_succ_at_period_end m hp hend]
  · rw [hphi] at hend
    have hover : n + 1 = s.params.timing.bitPeriod * (frameBits m).length := by
      rw [succ_at_period_end hp hend, hlast.1 hdone]
    rw [heq, hlevel, if_neg (by omega)]

/-! A frame, from its acceptance on -/

/-- A block that took SEND `m` in the state `s`, at tick `n` of the frame; `lv` is the level of `out_line` so far. -/
def sendingState (m : Message) (s : State) (lv : Level) (n : Nat) : State :=
  { s with
    host := [], line := s.line.drop n, draws := s.draws + n, now := (nextNow s.params)^[n] s.now
    outLine := lv, busy := true, curOp := .tx, tx := frameRegs m s.params.timing.bitPeriod n }

/-- That block after tick `n` of the frame: at the next tick of it, or idle after its last one (R127). -/
def afterSendTick (m : Message) (s : State) (n : Nat) : State :=
  if n + 1 < s.params.timing.bitPeriod * (frameBits m).length then
    sendingState m s (frameLevel s.params.timing m n) (n + 1)
  else
    { sendingState m s (frameLevel s.params.timing m n) (n + 1) with
      busy := false, curOp := .idle, tx := { frameRegs m s.params.timing.bitPeriod n with phi := 0#12 } }

theorem afterSendTick_outLine (m : Message) (s : State) (n : Nat) :
    (afterSendTick m s n).outLine = frameLevel s.params.timing m n := by
  unfold afterSendTick
  split <;> rfl

theorem afterSendTick_busy_iff (m : Message) (s : State) (n : Nat) :
    (afterSendTick m s n).busy = true ↔ n + 1 < s.params.timing.bitPeriod * (frameBits m).length := by
  unfold afterSendTick
  split
  next hmore => exact iff_of_true rfl hmore
  next hover => exact iff_of_false Bool.false_ne_true hover

theorem sendingState_zero (m : Message) (s : State) :
    sendingState m s s.outLine 0 = setHost [] (startTx m s) := by
  simp [sendingState, frameRegs, setHost, startTx]

/-- The engine does not look at the host's script. -/
theorem txTick_setHost (acts : List HostAct) (s : State) : txTick (setHost acts s) = setHost acts (txTick s) := by
  rcases txTick_cases s with ⟨hmid, heq⟩ | ⟨hend, hmore, heq⟩ | ⟨hend, hdone, heq⟩
  · rw [heq]; exact if_neg hmid
  · rw [heq]; exact (if_pos hend).trans (if_neg hmore)
  · rw [heq]; exact (if_pos hend).trans (if_pos hdone)

theorem decode_encode_send (m : Message) : decode (encode (.send m)) = .ok (.send m) :=
  (decodeReadsTheNamedFields m).1

/-- R40: the acceptance tick of a SEND is tick 0 of its frame. -/
theorem step_of_send {s : State} {m : Message} (ha : accepting s = true) (hh : s.host = [offerOf (.send m)]) :
    step s = step (sendingState m s s.outLine 0) := by
  have hu : s.unspec = false := ((accepting_iff s).1 ha).1
  have hsilent := step_of_silent_host (s := sendingState m s s.outLine 0) rfl hu
  rw [step_of_accepted ha (decode_encode_send m) hh, hsilent, sendingState_zero,
    engine_tx (s := setHost [] (startTx m s)) rfl, txTick_setHost]
  rfl

section Frame

variable {m : Message} {s : State} {lv : Level} {n : Nat}

/-- R126, R127: one tick of the frame. -/
theorem step_sendingState (hw : s.params.wellFormed = true) (hu : s.unspec = false)
    (hn : n < s.params.timing.bitPeriod * (frameBits m).length) :
    step (sendingState m s lv n) = .next (afterSendTick m s n) := by
  obtain ⟨htm, -, -⟩ := (Params.wellFormed_iff s.params).1 hw
  obtain ⟨-, -, -, -, hp, hfit⟩ := (Timing.wellFormed_iff s.params.timing).1 htm
  have hsilent := step_of_silent_host (s := sendingState m s lv n) rfl hu
  have htick : engine (sendingState m s lv n) = _ :=
    (engine_tx rfl).trans (txTick_of_frameRegs (s := sendingState m s lv n) hp hfit rfl hn)
  have hnow := Function.iterate_succ_apply' (nextNow s.params) n s.now
  have hline : s.line.drop (n + 1) = (s.line.drop n).tail := by simp
  rw [hsilent, htick, afterSendTick, sendingState, sendingState, hnow, hline]
  split <;> rfl

/-- R103: the block is in the frame until its last tick. -/
theorem run_sendingState (hw : s.params.wellFormed = true) (hu : s.unspec = false)
    (hn : n < s.params.timing.bitPeriod * (frameBits m).length) :
    ∃ lv, Sys2Proof.core.run n (sendingState m s s.outLine 0) = .next (sendingState m s lv n) := by
  induction n with
  | zero => exact ⟨s.outLine, rfl⟩
  | succ n ih =>
    obtain ⟨lv, hrun⟩ := ih (Nat.lt_of_succ_lt hn)
    have hstep := step_sendingState (lv := lv) hw hu (Nat.lt_of_succ_lt hn)
    rw [afterSendTick, if_pos hn] at hstep
    exact ⟨_, (run_add hrun 1).trans (run_succ hstep 0)⟩

/-- R103, R127: an accepted SEND, `n + 1` ticks later. -/
theorem run_send (ha : accepting s = true) (hh : s.host = [offerOf (.send m)]) (hw : s.params.wellFormed = true)
    (hn : n < s.params.timing.bitPeriod * (frameBits m).length) :
    Sys2Proof.core.run (n + 1) s = .next (afterSendTick m s n) := by
  have hu : s.unspec = false := ((accepting_iff s).1 ha).1
  have hfirst := step_sendingState (m := m) (lv := s.outLine) hw hu (Nat.zero_lt_of_lt hn)
  obtain ⟨lv, hrun⟩ := run_sendingState hw hu hn
  calc Sys2Proof.core.run (n + 1) s
      = Sys2Proof.core.run n (afterSendTick m s 0) := run_succ ((step_of_send ha hh).trans hfirst) n
    _ = Sys2Proof.core.run (n + 1) (sendingState m s s.outLine 0) := (run_succ hfirst n).symm
    _ = Sys2Proof.core.run 1 (sendingState m s lv n) := run_add hrun 1
    _ = .next (afterSendTick m s n) := run_succ (step_sendingState hw hu hn) 0

end Frame

/-- R10, R103: the line is high in the high phase of each bit. -/
theorem frameLevel_eq_high_iff (tm : Timing) (m : Message) (n : Nat) :
    frameLevel tm m n = .high ↔
      n % tm.bitPeriod < highTime tm ((frameBits m).getD (n / tm.bitPeriod) false) :=
  sendBit_eq_high_iff tm _ _

/-- Settles O39: tick `n` of the frame drives its level, and leaves the block busy unless it is the last one. -/
theorem sendDrivesItsPulseTrain : Obligations.SendDrivesItsPulseTrain := by
  intro s m n ha hh hw hn
  refine ⟨fun htm => by rw [htm]; rfl, afterSendTick m s n, run_send ha hh hw hn, ?_, afterSendTick_busy_iff m s n⟩
  rw [afterSendTick_outLine, frameLevel_eq_high_iff]

end Sys2Proof.Machine
end

section
/-! PROOFS. The parity nibble a frame ends with, and the order of its bits on the wire (R122, R123). -/

namespace Sys2Proof.Machine

/-- R121, R123: a frame ends with its parity nibble. -/
theorem frameNibbles_getLast? (m : Message) : (frameNibbles m).getLast? = some (xorBelow m 17 0#4 + 1#4) := by
  rw [frameNibbles_eq, List.getLast?_concat]

/-- R123: position 16 is past the last nibble and adds nothing to the XOR. -/
theorem xorBelow_seventeen (m : Message) (acc : Nibble) : xorBelow m 17 acc = xorBelow m 16 acc := by
  rw [xorBelow_succ, nib_sixteen, BitVec.xor_zero]

/-- Settles O35: the scan of the transmitter ends with the XOR of the positions below 17, plus one. -/
theorem transmittedParityIsXorOfAllNibbles : Obligations.TransmittedParityIsXorOfAllNibbles := by
  intro m
  have h17 := frameNibbles_getLast? m
  have h16 := h17
  rw [xorBelow_seventeen] at h16
  exact ⟨h17, h16⟩

/-- R71: the bits of a nibble, by their place on the wire. -/
theorem nibbleBits_getElem? (v : Nibble) {j : Nat} (hj : j < 4) : (nibbleBits v)[j]? = some (v.getLsbD (3 - j)) := by
  match j with
  | 0 | 1 | 2 | 3 => rfl

/-- R122: bit `4 q + j` of the bits of a list of nibbles is bit `3 - j` of nibble `q`. -/
theorem flatMap_nibbleBits_getElem? (vs : List Nibble) (q : Nat) {j : Nat} (hj : j < 4) :
    (vs.flatMap nibbleBits)[4 * q + j]? = vs[q]?.map (·.getLsbD (3 - j)) := by
  induction vs generalizing q with
  | nil => rfl
  | cons v vs ih =>
    rw [List.flatMap_cons]
    cases q with
    | zero =>
      rw [Nat.mul_zero, Nat.zero_add, List.getElem?_append_left (by simpa using hj), nibbleBits_getElem? v hj]
      rfl
    | succ q =>
      have hrest : 4 * (q + 1) + j - (nibbleBits v).length = 4 * q + j := by rw [nibbleBits_length]; omega
      rw [List.getElem?_append_right (by rw [nibbleBits_length]; omega), hrest, ih, List.getElem?_cons_succ]

/-- R122: a frame has up to 16 nibbles of its message, and the parity nibble. -/
theorem frameNibbles_length_bounds (m : Message) : 1 ≤ (frameNibbles m).length ∧ (frameNibbles m).length ≤ 17 := by
  have hbits := frameBits_length_bounds m
  rw [frameBits_length] at hbits
  omega

/-- Settles O36: the frame's bits are those of its nibbles, four for each. -/
theorem frameBitsAreInWireOrder : Obligations.FrameBitsAreInWireOrder := by
  intro m
  obtain ⟨hge, hle⟩ := frameNibbles_length_bounds m
  refine ⟨frameBits_length m, hge, hle, fun q j v hj hv => ?_⟩
  rw [frameBits, flatMap_nibbleBits_getElem? _ q hj, hv, Option.map_some]

end Sys2Proof.Machine
end

section
/-! PROOFS. The acceptance of SEND and one tick of the transmit engine (R125, R126). -/

namespace Sys2Proof.Machine

/-- R84: a command that is offered to a block that accepts commands takes effect. -/
theorem commandPhase_of_accepted {s : State} {i : Instr} {w : CmdWord} (ha : accepting s = true)
    (ho : offered s = some w) (hd : decode w = .ok i) : commandPhase s = .next (acceptedState i s) := by
  simp only [commandPhase, ho, hd]
  rw [exec_eq_offer, offer_of_accepting ha]

theorem commandPhase_of_not_offered {s : State} (ho : offered s = none) : commandPhase s = .next s := by
  simp only [commandPhase, ho]

/-- R40: a tick whose command phase leaves the block transmitting, with nothing unspecified, runs the transmit engine. -/
theorem step_of_transmitting {s s1 : State} (hr : (hostPins s).rst = false) (hc : commandPhase s = .next s1)
    (hu : s.unspec = false) (hu1 : s1.unspec = false) (htx : s1.curOp = .tx) :
    step s = .next (advance (setHost (hostRest s) (txTick s1))) := by
  rw [step_of_commandPhase hr hc, finishTick_specified hu hu1, engine_tx htx]

/-- R125: `tx_len` holds the length of any frame. -/
theorem startTx_len_toNat (m : Message) (s : State) : (startTx m s).tx.len.toNat = (frameBits m).length := by
  have hle := (frameBits_length_bounds m).2
  rw [startTx_tx, BitVec.toNat_ofNat]
  exact Nat.mod_eq_of_lt (by omega)

/-- Settles O12: the accepted SEND leaves its command phase in `startTx m s`, on which the engine phase runs. -/
theorem sendLoadsTheTransmitter : Obligations.SendLoadsTheTransmitter := by
  intro s m ha
  obtain ⟨hge, hle⟩ := frameBits_length_bounds m
  have hu : s.unspec = false := ((accepting_iff s).1 ha).1
  refine ⟨startTx m s, rfl, hge, hle, startTx_len_toNat m s, offer_of_accepting ha _, fun hr ho => ?_⟩
  exact step_of_transmitting hr (commandPhase_of_accepted ha ho (decode_encode_send m)) hu hu rfl

/-- R126: inside the frame the engine sends the bit that `tx_k` points at. -/
theorem txBit_of_getElem? {s : State} {b : Bool} (h : s.tx.bits[s.tx.k.toNat]? = some b) : txBit s = b := by
  rw [txBit, List.getD_eq_getElem?_getD, h, Option.getD_some]

/-- Settles O38: the three cases of the engine's tick, inside a bit, at its end and at the frame's end. -/
theorem transmitEngineStep : Obligations.TransmitEngineStep := by
  intro s b htx hu hr ho hb
  refine ⟨sendBit s.params.timing b s.tx.phi.toNat, sendBit_eq_high_iff _ _ _, ?_⟩
  rw [step_of_transmitting hr (commandPhase_of_not_offered ho) hu hu htx]
  rcases txTick_cases s with ⟨hmid, heq⟩ | ⟨hend, hmore, heq⟩ | ⟨hend, hdone, heq⟩
  · rw [if_neg hmid, heq, txBit_of_getElem? hb]
    rfl
  · rw [if_pos hend, if_neg hmore, heq, txBit_of_getElem? hb]
    rfl
  · rw [if_pos hend, if_pos hdone, heq, txBit_of_getElem? hb]
    rfl

end Sys2Proof.Machine
end

section
/-! PROOFS. The acceptance of RECEIVE and of CHECK_PARITY, and any command at a busy block (R141, R142, R151, R203). -/

namespace Sys2Proof.Machine

theorem decode_encode_receive : decode (encode .receive) = .ok .receive := by
  obtain ⟨-, hreceive, -⟩ := decodeReadsTheNamedFields 0#64
  exact hreceive

theorem decode_encode_checkParity (x : BitVec 64) : decode (encode (.checkParity x)) = .ok (.checkParity x) := by
  obtain ⟨-, -, -, -, -, hparity⟩ := decodeReadsTheNamedFields x
  exact hparity

theorem exec_of_accepting {s : State} (ha : accepting s = true) (i : Instr) : exec i s = .next (acceptedState i s) := by
  rw [exec_eq_offer, offer_of_accepting ha]

/-- R203: any command at a block that is not idle. -/
theorem exec_of_busy {s : State} (h : s.curOp ≠ .idle) (i : Instr) : exec i s = .next (cmdWhileBusy s) := by
  rw [exec_eq_offer, offer_of_not_accepting ((accepting_eq_false_iff s).2 (.inr h))]

/-- R203, R204: what such a command writes into the fault registers. -/
theorem exec_raises_cmdWhileBusy {s : State} (h : s.curOp ≠ .idle) (i : Instr) :
    ∃ t, exec i s = .next t ∧ t.fault = true ∧ t.faultCause = if s.fault then s.faultCause else 2#2 :=
  ⟨cmdWhileBusy s, exec_of_busy h i, recordFault_fault _ s, recordFault_faultCause _ s⟩

/-- R141: a high line fails the RECEIVE at once. -/
theorem acceptedState_receive_of_high {s : State} (h : sample s = .high) :
    acceptedState .receive s = finishRx false 0#_ s := if_pos h

/-- R142: a low line starts the window. -/
theorem acceptedState_receive_of_low {s : State} (h : sample s = .low) : acceptedState .receive s = startRx s :=
  if_neg (by rw [h]; decide)

/-- R40: a tick whose command phase leaves the block receiving, with nothing unspecified, runs the receive engine. -/
theorem step_of_receiving {s s1 : State} (hr : (hostPins s).rst = false) (hc : commandPhase s = .next s1)
    (hu : s.unspec = false) (hu1 : s1.unspec = false) (hrx : s1.curOp = .rx) :
    step s = .next (advance (setHost (hostRest s) (rxTick s1))) := by
  rw [step_of_commandPhase hr hc, finishTick_specified hu hu1, engine_rx hrx]

/-- R40, R213: a tick whose command phase leaves the block idle, with nothing unspecified, runs no engine. -/
theorem step_of_idle {s s1 : State} (hr : (hostPins s).rst = false) (hc : commandPhase s = .next s1)
    (hu : s.unspec = false) (hu1 : s1.unspec = false) (hidle : s1.curOp = .idle) :
    step s = .next (advance (setHost (hostRest s) s1)) := by
  rw [step_of_commandPhase hr hc, finishTick_specified hu hu1, engine_idle hidle]

/-- Settles O16: the accepted RECEIVE leaves its command phase failed or in `startRx s`, by the level of the line. -/
theorem receiveTestsTheLineAndInitialises : Obligations.ReceiveTestsTheLineAndInitialises := by
  intro s ha
  have hu : s.unspec = false := ((accepting_iff s).1 ha).1
  refine ⟨fun hhigh => ?_, fun hlow => ⟨startRx s, rfl, ?_, fun hr ho => ?_⟩⟩
  · rw [exec_of_accepting ha, acceptedState_receive_of_high hhigh]
    rfl
  · rw [exec_of_accepting ha, acceptedState_receive_of_low hlow]
  · have hc := commandPhase_of_accepted ha ho decode_encode_receive
    rw [acceptedState_receive_of_low hlow] at hc
    exact step_of_receiving hr hc hu hu rfl

/-- Settles O17: the accepted CHECK_PARITY leaves its command phase idle, so no engine runs after it. -/
theorem checkParityWritesResultOk : Obligations.CheckParityWritesResultOk := by
  intro s x
  refine ⟨fun ha => ⟨exec_of_accepting ha _, fun hr ho => ?_⟩, fun hbusy => exec_raises_cmdWhileBusy hbusy _⟩
  have hu : s.unspec = false := ((accepting_iff s).1 ha).1
  exact step_of_idle hr (commandPhase_of_accepted ha ho (decode_encode_checkParity x)) hu hu rfl

end Sys2Proof.Machine
end

section
/-! PROOFS. One tick of the receive engine (R143 to R147). -/

namespace Sys2Proof.Machine

/-! What a sample does to the receive registers, one equation for each row of R143 to R146 -/

section Sample

variable {p : Params} {now : Nat} {r : RxRegs}

/-- R145: the pulse has ended; the next high level is measured from here. -/
theorem rxSample_low_of_po (hpo : r.po = true) : rxSample p .low now r = { r with po := false, tlast := now } := by
  simp [rxSample, hpo]

theorem rxSample_low_of_not_po (hpo : r.po = false) : rxSample p .low now r = { r with seen := false } := by
  simp [rxSample, hpo]

/-- R143: a pulse that has given its bit gives no other. -/
theorem rxSample_high_of_po (hpo : r.po = true) : rxSample p .high now r = r := by
  simp [rxSample, hpo]

/-- R146: a level that gives no bit is remembered in EDGE mode. -/
theorem rxSample_high_of_none (hpo : r.po = false) (hc : rxClassify p r.seen (elapsed p now r.tlast) = none) :
    rxSample p .high now r = if p.deadzone = .edge then { r with seen := true } else r := by
  simp [rxSample, hpo, hc]

theorem rxSample_high_of_some {b : Bool} (hpo : r.po = false)
    (hc : rxClassify p r.seen (elapsed p now r.tlast) = some b) : rxSample p .high now r = rxPush b r := by
  simp [rxSample, hpo, hc]

/-- R146: EDGE mode classifies no level that it has seen in the dead zone. -/
theorem rxSample_high_of_seen (hpo : r.po = false) (hsup : p.deadzone = .edge ∧ r.seen = true) :
    rxSample p .high now r = r := by
  rw [rxSample_high_of_none hpo (if_pos hsup), if_pos hsup.1, ← hsup.2]

/-- R107, R143: no bit in the dead zone. -/
theorem rxSample_high_of_dead (hpo : r.po = false) (hsup : ¬(p.deadzone = .edge ∧ r.seen = true))
    (hdead : elapsed p now r.tlast < p.timing.rxT0Min) :
    rxSample p .high now r = if p.deadzone = .edge then { r with seen := true } else r :=
  rxSample_high_of_none hpo ((if_neg hsup).trans (if_pos hdead))

/-- R106, R144: past the dead zone the time since the baseline decides the bit. -/
theorem rxSample_high_of_live (hpo : r.po = false) (hsup : ¬(p.deadzone = .edge ∧ r.seen = true))
    (hlive : ¬elapsed p now r.tlast < p.timing.rxT0Min) :
    rxSample p .high now r = rxPush (decide (p.timing.rxT0Max < elapsed p now r.tlast)) r := by
  refine rxSample_high_of_some hpo ?_
  rw [rxClassify, if_neg hsup, classify, if_neg hlive]
  split
  next hzero => rw [decide_eq_false (by omega)]
  next hone => rw [decide_eq_true (by omega)]

end Sample

/-- R143: the last tick of the window. -/
theorem rxLast_iff (s : State) :
    rxLast s = true ↔ elapsed s.params s.now s.rx.tstart + 1 = s.params.rxWindow := decide_eq_true_iff

/-- Settles O42: the sample's rows give the tick's values, and the last tick of the window turns them into results. -/
theorem receiveEngineStep : Obligations.ReceiveEngineStep := by
  intro s hrx hu hr ho
  refine ⟨elapsed s.params s.now, rxSample s.params (sample s) s.now s.rx, fun _ => rfl, ?_, ?_⟩
  · cases hlv : sample s with
    | low =>
      rw [if_neg (by decide)]
      split
      next hpo => exact rxSample_low_of_po hpo
      next hpo => exact rxSample_low_of_not_po (eq_false_of_ne_true hpo)
    | high =>
      rw [if_pos rfl]
      split
      next hpo => exact rxSample_high_of_po hpo
      next hpo =>
        have hpo' : s.rx.po = false := eq_false_of_ne_true hpo
        split
        next hsup => exact rxSample_high_of_seen hpo' hsup
        next hsup =>
          split
          next hdead => exact rxSample_high_of_dead hpo' hsup hdead
          next hlive =>
            rw [rxSample_high_of_live hpo' hsup hlive]
            split
            next hzero => rw [decide_eq_false (by omega)]; rfl
            next hone => rw [decide_eq_true (by omega)]; rfl
  · rw [step_of_receiving hr (commandPhase_of_not_offered ho) hu hu hrx, ← rxLast_iff, ← frameOk_iff]
    rcases rxTick_cases s with ⟨hmid, heq⟩ | ⟨hlast, heq⟩
    · rw [heq]
      exact ⟨fun hlast => absurd (hmid.symm.trans hlast) (by decide), fun _ => rfl⟩
    · rw [heq]
      refine ⟨fun _ => ⟨fun hok => ?_, fun hfail => ?_⟩, fun hmid => absurd ((rxLast_iff s).1 hlast) hmid⟩
      · rw [hok]; rfl
      · rw [eq_false_of_ne_true hfail]; rfl

end Sys2Proof.Machine
end

section
/-! PROOFS. The parity check, and that it accepts what the transmitter sends (R150 to R153). -/

namespace Sys2Proof.Machine

/-- R8: the parity nibble, as a number. -/
theorem and_fifteen_toNat (x : Message) : (x &&& 0xF#64).toNat = (nib x 0).toNat := by
  simp [nib, Nat.and_two_pow_sub_one_eq_mod x.toNat 4]

/-- R150: the XOR of `n` nibbles from position `i` up, as a fold over the positions. -/
theorem xorNibbles_eq_foldr (x : Message) (i n : Nat) :
    xorNibbles x i n = (List.range n).foldr (fun j a => nib x (j + i) ^^^ a) 0#4 := by
  induction n generalizing i with
  | zero => rfl
  | succ n ih => simp [List.range_succ_eq_map, List.foldr_map, ih, Nat.add_right_comm, Nat.add_assoc]

/-- R150: what the parity nibble is compared with. -/
theorem parityOf_eq_foldr (x : Message) :
    parityOf x = (List.range 16).foldr (fun j a => nib x (j + 1) ^^^ a) 0#4 + 1#4 := by
  rw [parityOf, ← xorNibbles_eq_foldr]
  rfl

/-- Settles O50: `parityOf x` is the sum on the right, and nibble 0 the mask on the left. -/
theorem parityLaw : Obligations.ParityLaw := by
  intro x
  rw [checkParity_iff, parityOf_eq_foldr, and_fifteen_toNat, eq_comm, ← BitVec.toNat_inj, BitVec.toNat_add]
  rfl

/-! The value a receiver assembles from the nibbles of `m` and a parity nibble -/

theorem nib_zero_shiftLeft_or (m : Message) (p : Nibble) : nib ((m <<< 4) ||| p.setWidth 64) 0 = p := by
  apply BitVec.eq_of_getLsbD_eq
  intro j hj
  rw [getLsbD_nib, getLsbD_shiftLeft_or_setWidth m p (by omega), if_pos (by omega)]
  simp [hj]

/-- Every nibble of `m` but its last one moves up one position. -/
theorem nib_succ_shiftLeft_or (m : Message) (p : Nibble) {i : Nat} (hi : i < 15) :
    nib ((m <<< 4) ||| p.setWidth 64) (i + 1) = nib m i := by
  apply BitVec.eq_of_getLsbD_eq
  intro j hj
  rw [getLsbD_nib, getLsbD_nib, getLsbD_shiftLeft_or_setWidth m p (by omega), if_neg (by omega),
    show 4 * (i + 1) + j - 4 = 4 * i + j by omega]

/-- R153: what the check XORs is what the transmitter XORed, where the nibble that falls off the top is 0. -/
theorem parityOf_shiftLeft_or {m : Message} (p : Nibble) (htop : nib m 15 = 0#4) :
    parityOf ((m <<< 4) ||| p.setWidth 64) = xorBelow m 16 0#4 + 1#4 := by
  rw [parityOf_eq_foldr, xorBelow]
  congr 1
  refine List.foldr_ext _ _ _ fun i hi a => ?_
  have hle : i < 16 := List.mem_range.1 hi
  rcases Nat.lt_or_ge i 15 with hlt | hge
  · rw [nib_succ_shiftLeft_or m p hlt]
  · obtain rfl : i = 15 := by omega
    rw [nib_sixteen, htop]

/-- Settles O51: the receiver compares the nibble the frame ends with to the XOR it was made from. -/
theorem receiverAcceptsTransmittedParity : Obligations.ReceiverAcceptsTransmittedParity := by
  intro m p htop hlast
  have hp : xorBelow m 16 0#4 + 1#4 = p := by
    rw [frameNibbles_getLast?, xorBelow_seventeen] at hlast
    exact Option.some.inj hlast
  rw [checkParity_iff, parityOf_shiftLeft_or p htop, nib_zero_shiftLeft_or, hp]

end Sys2Proof.Machine
end

section
/-! PROOFS. Decimal digits and field insertion (R170, R171). -/

namespace Sys2Proof.Machine

/-- R171: the two digits make up the value. -/
theorem ten_mul_tens_add_ones (v : Nat) : 10 * tens v + ones v = v := Nat.div_add_mod v 10

theorem ones_le_nine (v : Nat) : ones v ≤ 9 := Nat.le_of_lt_succ (Nat.mod_lt v (by decide))

/-- R171: from which value on the tens digit is above `n`. -/
theorem lt_tens_iff (n v : Nat) : n < tens v ↔ (n + 1) * 10 ≤ v := Nat.le_div_iff_mul_le (by decide)

/-- Settles O53: both thresholds are cases of `lt_tens_iff`. -/
theorem tensDigitIsNotReduced : Obligations.TensDigitIsNotReduced := by
  intro v
  exact ⟨ten_mul_tens_add_ones v, ones_le_nine v, lt_tens_iff 9 v, lt_tens_iff 15 v⟩

/-- R170: the bits of an insertion. -/
theorem getLsbD_ins (t : Message) (v : Nat) (off : Fin 16) {k : Nat} (hk : k < 64) :
    (ins t v off).getLsbD k = (t.getLsbD k || (decide (4 * off.val ≤ k) && v.testBit (k - 4 * off.val))) := by
  have hlow : k - 4 * off.val < 64 := by omega
  rw [ins, BitVec.getLsbD_or, BitVec.getLsbD_shiftLeft, BitVec.getLsbD_ofNat]
  rcases Nat.lt_or_ge k (4 * off.val) with hlt | hle
  · simp [hlt]
  · simp [hk, hlow, hle, Nat.not_lt_of_le hle]

/-- R170: the order of two insertions does not matter, because an insertion only ORs. -/
theorem ins_comm (t : Message) (v v' : Nat) (off off' : Fin 16) :
    ins (ins t v off) v' off' = ins (ins t v' off') v off := by
  simp only [ins]
  ac_rfl

/-- Settles O52: the two laws of an insertion. -/
theorem fieldInsertionIsOrWithSpill : Obligations.FieldInsertionIsOrWithSpill :=
  ⟨fun t v off _ _ hk => getLsbD_ins t v off hk, ins_comm⟩

/-- R170: the nibble at the offset takes the low four bits of the value, whatever the value is. -/
theorem nib_ins_self (t : Message) (v : Nat) (off : Fin 16) :
    nib (ins t v off) off.val = nib t off.val ||| BitVec.ofNat 4 v := by
  apply BitVec.eq_of_getLsbD_eq
  intro j hj
  have hk : 4 * off.val + j < 64 := by omega
  rw [BitVec.getLsbD_or, getLsbD_nib, getLsbD_nib, getLsbD_ins t v off hk, BitVec.getLsbD_ofNat]
  simp [hj]

/-- R178: a digit in a nibble that was 0 arrives as that nibble. -/
theorem nib_ins_toNat {t : Message} {v : Nat} {off : Fin 16} (h0 : nib t off.val = 0#4) (hv : v < 16) :
    (nib (ins t v off) off.val).toNat = v := by
  rw [nib_ins_self, h0, BitVec.zero_or, BitVec.toNat_ofNat, Nat.mod_eq_of_lt hv]

end Sys2Proof.Machine
end

section
/-! PROOFS. The three builders: the value each one composes and hands to the transmitter (R172 to R175). -/

namespace Sys2Proof.Machine

/-- R175, R203: a command whose acceptance starts the transmission of `f`, at a block that accepts commands and at one that
is busy. -/
theorem exec_of_sends {i : Instr} {f : Message} {s : State} (h : acceptedState i s = startTx f s) :
    (accepting s = true → exec i s = .next (startTx f s)) ∧
      (s.curOp ≠ .idle → ∃ t, exec i s = .next t ∧ t.fault = true ∧
        t.faultCause = if s.fault then s.faultCause else 2#2) :=
  ⟨fun ha => h ▸ exec_of_accepting ha i, fun hbusy => exec_raises_cmdWhileBusy hbusy i⟩

/-- Settles O13: the composed value is `composePlay`, and its acceptance is that of a SEND. -/
theorem playingTrackSendsItsComposedValue : Obligations.PlayingTrackSendsItsComposedValue := by
  intro s arg
  obtain ⟨-, -, hdecode, -, -, -⟩ := decodeReadsTheNamedFields arg
  exact ⟨_, _, composePlay s.params _ _, rfl, rfl, rfl, hdecode, exec_of_sends rfl⟩

/-- Settles O14: the composed value is `composeChanged`, and its acceptance is that of a SEND. -/
theorem changedCdSendsItsComposedValue : Obligations.ChangedCdSendsItsComposedValue := by
  intro s arg
  obtain ⟨-, -, -, hdecode, -, -⟩ := decodeReadsTheNamedFields arg
  exact ⟨_, _, composeChanged s.params _ _, rfl, rfl, rfl, hdecode, exec_of_sends rfl⟩

/-- Settles O15: the composed value is `composeStatus`, one insertion, and its acceptance is that of a SEND. -/
theorem cdStatusSendsItsComposedValue : Obligations.CdStatusSendsItsComposedValue := by
  intro s arg
  obtain ⟨-, -, -, -, hdecode, -⟩ := decodeReadsTheNamedFields arg
  exact ⟨_, composeStatus s.params _, rfl, rfl, nib_ins_toNat, hdecode, exec_of_sends rfl⟩

end Sys2Proof.Machine
end

section
/-! PROOFS. The reserved words, and the checks of a tick in their order: reset, busy, reserved, accepted (R83, R202 to R204,
R213). -/

namespace Sys2Proof

/-- R83: a nonzero bit in `CMD[7:3]` makes a word reserved, and so does an `OP` of 0 or 7. -/
theorem decode_of_reserved {w : CmdWord}
    (h : (cmdOf w).extractLsb' 0 3 = 0#3 ∨ (cmdOf w).extractLsb' 0 3 = 7#3 ∨ (cmdOf w).extractLsb' 3 5 ≠ 0#5) :
    ∃ e, decode w = .error e := by
  by_cases hbits : (cmdOf w).extractLsb' 3 5 = 0#5
  · simp only [decode, hbits]
    rcases h with hop | hop | hne
    · exact ⟨.reservedOpcode, by rw [hop]; rfl⟩
    · exact ⟨.reservedOpcode, by rw [hop]; rfl⟩
    · exact absurd hbits hne
  · exact ⟨.reservedBits, if_pos hbits⟩

/-- R82: an `OP` from 1 to 6 with `CMD[7:3]` at 0 is one of the six commands. -/
theorem decode_of_not_reserved {w : CmdWord} (h0 : (cmdOf w).extractLsb' 0 3 ≠ 0#3)
    (h7 : (cmdOf w).extractLsb' 0 3 ≠ 7#3) (hbits : (cmdOf w).extractLsb' 3 5 = 0#5) : ∃ i, decode w = .ok i := by
  rw [decode, if_neg (not_not_intro hbits)]
  split
  case h_7 h1 h2 h3 h4 h5 h6 =>
    simp only [imp_false] at h1 h2 h3 h4 h5 h6
    bv_omega
  all_goals exact ⟨_, rfl⟩

namespace Machine

/-! The command phase, by the check that decides it -/

/-- R204: `FAULT_CAUSE` keeps the first fault, and nothing else changes. -/
theorem recordFault_eq (c : BitVec 2) (s : State) :
    recordFault c s = { s with fault := true, faultCause := if s.fault then s.faultCause else c } := by
  rcases recordFault_cases c s with ⟨hf, heq⟩ | ⟨hf, heq⟩
  · rw [heq, if_pos hf, ← hf]
  · rw [heq, if_neg (ne_true_of_eq_false hf)]

theorem commandPhase_of_decoded {s : State} {w : CmdWord} {i : Instr} (ho : offered s = some w)
    (hd : decode w = .ok i) : commandPhase s = exec i s := by
  simp only [commandPhase, ho, hd]

/-- R202: a reserved command at a block that accepts commands. -/
theorem commandPhase_of_reserved {s : State} {w : CmdWord} {e : DecodeError} (ha : accepting s = true)
    (ho : offered s = some w) (hd : decode w = .error e) :
    commandPhase s = .next (recordFault causeIllegalCmd s) := by
  simp only [commandPhase, ho, hd, rejectReserved, ha, if_true, illegalCmd]

/-- R203, R204: the busy check comes before the decoder, so it turns away reserved words too. -/
theorem commandPhase_of_not_accepting {s : State} {w : CmdWord} (ha : accepting s = false)
    (ho : offered s = some w) : commandPhase s = .next (cmdWhileBusy s) := by
  cases hd : decode w with
  | ok i => rw [commandPhase_of_decoded ho hd, exec_eq_offer, offer_of_not_accepting ha]
  | error e => simp only [commandPhase, ho, hd, rejectReserved, ha, Bool.false_eq_true, if_false]

/-! The fault registers in a tick -/

@[simp] theorem acceptedState_fault (i : Instr) (s : State) : (acceptedState i s).fault = s.fault := by
  cases i with
  | receive => rw [acceptedState]; split <;> rfl
  | _ => rfl

@[simp] theorem acceptedState_faultCause (i : Instr) (s : State) : (acceptedState i s).faultCause = s.faultCause := by
  cases i with
  | receive => rw [acceptedState]; split <;> rfl
  | _ => rfl

/-- R29, R40: what the command phase leaves in the fault registers stands there at the end of the tick. -/
theorem step_fault_of_commandPhase {s s1 : State} (hr : (hostPins s).rst = false) (hc : commandPhase s = .next s1) :
    ∃ t, step s = .next t ∧ t.fault = s1.fault ∧ t.faultCause = s1.faultCause :=
  ⟨_, step_of_commandPhase hr hc, finishTick_fault s s1, finishTick_faultCause s s1⟩

/-- Settles O5: the decoder separates the reserved words from the commands, and a reserved one leaves the block idle, so no
engine runs after it. -/
theorem reservedCommandsRaiseIllegalCmd : Obligations.ReservedCommandsRaiseIllegalCmd := by
  intro s w ha hr ho
  obtain ⟨hu, hidle⟩ := (accepting_iff s).1 ha
  split
  next hres =>
    obtain ⟨e, hd⟩ := decode_of_reserved hres
    have hc := commandPhase_of_reserved ha ho hd
    rw [recordFault_eq] at hc
    exact ⟨hc, step_of_idle hr hc hu hu hidle⟩
  next hcmd =>
    obtain ⟨h0, h7, hbits⟩ := by simpa only [not_or, not_not] using hcmd
    obtain ⟨i, hd⟩ := decode_of_not_reserved h0 h7 hbits
    exact ⟨i, hd, commandPhase_of_decoded ho hd⟩

/-- Settles O10: each check decides the command phase where the checks before it let the tick through. -/
theorem checksRunInTheirOrder : Obligations.ChecksRunInTheirOrder := by
  intro s hu
  refine ⟨step_of_rst, fun hr w ho => ⟨fun hbusy => ?busy, fun hidle e hd => ?reserved, fun hidle i hd => ?accepted⟩⟩
  case busy =>
    have ha := (accepting_eq_false_iff s).2 (.inr hbusy)
    obtain ⟨t, hstep, hfault, hcause⟩ := step_fault_of_commandPhase hr (commandPhase_of_not_accepting ha ho)
    exact ⟨t, hstep, hfault.trans (cmdWhileBusy_fault s), hcause.trans (cmdWhileBusy_faultCause s)⟩
  case reserved =>
    have ha := (accepting_iff s).2 ⟨hu, hidle⟩
    obtain ⟨t, hstep, hfault, hcause⟩ := step_fault_of_commandPhase hr (commandPhase_of_reserved ha ho hd)
    exact ⟨t, hstep, hfault.trans (recordFault_fault _ s), hcause.trans (recordFault_faultCause _ s)⟩
  case accepted =>
    have ha := (accepting_iff s).2 ⟨hu, hidle⟩
    obtain ⟨t, hstep, hfault, hcause⟩ := step_fault_of_commandPhase hr (commandPhase_of_accepted ha ho hd)
    exact ⟨commandPhase_of_decoded ho hd, t, hstep, hfault.trans (acceptedState_fault i s),
      hcause.trans (acceptedState_faultCause i s)⟩

/-- Settles O11: without a command the command phase changes nothing, and at an idle block no engine runs. -/
theorem idleBlockKeepsItsState : Obligations.IdleBlockKeepsItsState := by
  intro s hu hidle hr ho
  exact step_of_idle hr (commandPhase_of_not_offered ho) hu hu hidle

end Machine
end Sys2Proof
end

section
/-! PROOFS. The block after reset (R222). -/

namespace Sys2Proof.Machine

/-- R84: a command that an accepting block takes raises no fault. -/
theorem exec_of_accepting_keeps_fault {s : State} (ha : accepting s = true) (i : Instr) :
    ∃ s1, exec i s = .next s1 ∧ s1.fault = s.fault :=
  ⟨acceptedState i s, exec_of_accepting ha i, acceptedState_fault i s⟩

/-- R220, R222: a reset tick ends idle and outside the unspecified regime, whatever ran before it. -/
theorem accepting_resetTick (s : State) : accepting (resetTick s) = true :=
  (accepting_iff (resetTick s)).2 ⟨resetTick_unspec s, resetTick_curOp s⟩

/-- Settles O25: a reset tick is `resetTick`, which leaves the block accepting and without a fault, and an accepted command
raises none. -/
theorem blockIsReadyAfterReset : Obligations.BlockIsReadyAfterReset := by
  refine ⟨fun s t hr hstep => ?resetTick, rfl, rfl, (accepting_iff State.reset).2 ⟨rfl, rfl⟩⟩
  case resetTick =>
    obtain rfl : resetTick s = t := Host.Outcome.next.inj ((step_of_rst hr).symm.trans hstep)
    refine ⟨resetTick_curOp s, resetTick_busy s, fun i => ⟨?_, accepting_resetTick s⟩⟩
    obtain ⟨s1, hexec, hfault⟩ := exec_of_accepting_keeps_fault (accepting_resetTick s) i
    exact ⟨s1, hexec, hfault.trans (resetTick_fault s)⟩

end Sys2Proof.Machine
end

section
/-! PROOFS. Encoder and decoder undo each other, up to the bits of `ARG` that R81 does not name (R81, R86), and the words and
lines that go through them. -/

namespace Sys2Proof

/-! The two fields of an operand word -/

/-- R86: the low field of an operand word of two fields. -/
theorem extractLsb'_low_field {v w : Nat} (hi : BitVec v) (lo : BitVec w) (h : v + w ≤ 64) :
    ((hi ++ lo).setWidth 64).extractLsb' 0 w = lo := by
  apply BitVec.eq_of_getLsbD_eq
  intro k hk
  simp [BitVec.getLsbD_append, hk, show k < 64 by omega]

/-- R86: the high field of an operand word of two fields. -/
theorem extractLsb'_high_field {v w : Nat} (hi : BitVec v) (lo : BitVec w) (h : v + w ≤ 64) :
    ((hi ++ lo).setWidth 64).extractLsb' w v = hi := by
  apply BitVec.eq_of_getLsbD_eq
  intro k hk
  simp [BitVec.getLsbD_append, hk, show w + k < 64 by omega]

/-- R86: an operand word of one field. -/
theorem extractLsb'_only_field {w : Nat} (x : BitVec w) (h : w ≤ 64) : (x.setWidth 64).extractLsb' 0 w = x := by
  apply BitVec.eq_of_getLsbD_eq
  intro k hk
  simp [hk, show k < 64 by omega]

/-- Settles O1: the row of R81 that `CMD` selects reads back the fields the encoder put into `ARG`. -/
theorem decodeOfEncodeIsTheInstruction : Obligations.DecodeOfEncodeIsTheInstruction := by
  intro i
  obtain ⟨hsend, hreceive, hplay, hchanged, hstatus, hparity⟩ := decodeReadsTheNamedFields (encodeArg i)
  cases i with
  | send m => exact hsend
  | receive => exact hreceive
  | sendPlayingTrack track secs =>
    rw [encodeArg, extractLsb'_low_field _ _ (by decide), extractLsb'_high_field _ _ (by decide)] at hplay
    exact hplay
  | sendChangedCd cd track =>
    rw [encodeArg, extractLsb'_low_field _ _ (by decide), extractLsb'_high_field _ _ (by decide)] at hchanged
    exact hchanged
  | sendCdStatus cd =>
    rw [encodeArg, extractLsb'_only_field _ (by decide)] at hstatus
    exact hstatus
  | checkParity x => exact hparity

/-! What a word that decodes looks like -/

/-- R80: `CMD` is its `OP` where its reserved bits are 0. -/
theorem cmd_eq_op {c : BitVec 8} (h : c.extractLsb' 3 5 = 0#5) : c = BitVec.ofNat 8 (c.extractLsb' 0 3).toNat := by
  have hhigh : c.toNat / 8 % 32 = 0 := by
    simpa [BitVec.extractLsb'_toNat, Nat.shiftRight_eq_div_pow] using congrArg BitVec.toNat h
  apply BitVec.eq_of_toNat_eq
  simp only [BitVec.extractLsb'_toNat, BitVec.toNat_ofNat, Nat.shiftRight_zero]
  omega

/-- All that the decoder can answer for a word that is a command (R81, R82). -/
theorem decode_cases {w : CmdWord} {i : Instr} (h : decode w = .ok i) :
    (cmdOf w = 0x01#8 ∧ i = .send (argOf w)) ∨
    (cmdOf w = 0x02#8 ∧ i = .receive) ∨
    (cmdOf w = 0x03#8 ∧ i = .sendPlayingTrack ((argOf w).extractLsb' 0 8) ((argOf w).extractLsb' 8 16)) ∨
    (cmdOf w = 0x04#8 ∧ i = .sendChangedCd ((argOf w).extractLsb' 0 8) ((argOf w).extractLsb' 8 8)) ∨
    (cmdOf w = 0x05#8 ∧ i = .sendCdStatus ((argOf w).extractLsb' 0 8)) ∨
    (cmdOf w = 0x06#8 ∧ i = .checkParity (argOf w)) := by
  by_cases hbits : (cmdOf w).extractLsb' 3 5 = 0#5
  · have hcmd := cmd_eq_op hbits
    rw [decode, if_neg (not_not_intro hbits)] at h
    split at h
    case h_7 => cases h
    all_goals
      next hop =>
        rw [hop] at hcmd
        cases h
        simp [hcmd]
  · rw [decode, if_pos hbits] at h
    cases h

/-- R86: an operand word of two adjacent fields of `arg` keeps those bits of it. -/
theorem getLsbD_two_fields {v w k : Nat} (arg : BitVec 64) (hk : k < 64) :
    ((arg.extractLsb' w v ++ arg.extractLsb' 0 w).setWidth 64).getLsbD k =
      (arg.getLsbD k && decide (k < v + w)) := by
  rw [BitVec.extractLsb'_append_extractLsb'_eq_extractLsb' (by simp)]
  simp [hk, Bool.and_comm]

/-- R81: how many bits of `ARG` each command names. -/
theorem getLsbD_encodeArg_of_decode {w : CmdWord} {i : Instr} (h : decode w = .ok i) {k : Nat} (hk : k < 64) :
    (encodeArg i).getLsbD k = ((argOf w).getLsbD k && decide (k < argBits (encodeCmd i).toNat)) := by
  rcases decode_cases h with ⟨-, rfl⟩ | ⟨-, rfl⟩ | ⟨-, rfl⟩ | ⟨-, rfl⟩ | ⟨-, rfl⟩ | ⟨-, rfl⟩
  · simp [encodeArg, encodeCmd, argBits, hk]
  · simp [encodeArg, encodeCmd, argBits]
  · rw [encodeArg, getLsbD_two_fields _ hk]
    rfl
  · rw [encodeArg, getLsbD_two_fields _ hk]
    rfl
  · simp [encodeArg, encodeCmd, argBits, hk, Bool.and_comm]
  · simp [encodeArg, encodeCmd, argBits, hk]

/-- R82: the encoder gives back the `CMD` that was decoded. -/
theorem encodeCmd_of_decode {w : CmdWord} {i : Instr} (h : decode w = .ok i) : encodeCmd i = cmdOf w := by
  rcases decode_cases h with ⟨hc, rfl⟩ | ⟨hc, rfl⟩ | ⟨hc, rfl⟩ | ⟨hc, rfl⟩ | ⟨hc, rfl⟩ | ⟨hc, rfl⟩ <;> exact hc.symm

/-- Settles O2: the six rows of R81, and how many bits each one names. -/
theorem encodeOfDecodeKeepsTheNamedBits : Obligations.EncodeOfDecodeKeepsTheNamedBits := by
  intro w i h
  rw [cmdOf_encode, argOf_encode, ← encodeCmd_of_decode h]
  exact ⟨rfl, fun k hk => getLsbD_encodeArg_of_decode h hk⟩

/-- Settles O4: each word is decoded. -/
theorem writtenWordsDecodeToTheirCommands : Obligations.WrittenWordsDecodeToTheirCommands := by
  unfold Obligations.WrittenWordsDecodeToTheirCommands
  decide

namespace Machine

/-! The pins of a line of text -/

/-- R86, R88: the host drives the two fields of the command's word. -/
theorem offerOf_eq (i : Instr) : offerOf i = .pins ⟨false, true, encodeCmd i, encodeArg i⟩ := by
  rw [← cmdOf_encode, ← argOf_encode]
  rfl

/-- R86: a line with one command and nothing after it: its pins where its operands are in range, else its refusal. -/
theorem assembleLine_of_command (l : Line) (p : Prop) [Decidable p] {i : Instr} (hi : lineInstr l = some i)
    (htail : lineTail l = []) (hwf : l.wellFormed = true ↔ p) :
    assembleLine l = if p then .ok [.pins ⟨false, true, encodeCmd i, encodeArg i⟩] else .error .outOfRange := by
  simp only [assembleLine, hi, htail, hwf, Option.map_some, Option.toList_some, List.append_nil, offerOf_eq]

/-- R86: the operand word of two fields, as a number. -/
theorem ofNat_append_ofNat_setWidth {v w : Nat} (a b : Nat) (ha : a < 2 ^ v) (hb : b < 2 ^ w) :
    ((BitVec.ofNat v a ++ BitVec.ofNat w b).setWidth 64) = BitVec.ofNat 64 (a * 2 ^ w + b) := by
  apply BitVec.eq_of_toNat_eq
  rw [BitVec.toNat_setWidth, BitVec.toNat_append, BitVec.toNat_ofNat, BitVec.toNat_ofNat, BitVec.toNat_ofNat,
    Nat.mod_eq_of_lt ha, Nat.mod_eq_of_lt hb, ← Nat.shiftLeft_add_eq_or_of_lt hb, Nat.shiftLeft_eq]

/-- Settles O6: each line is one command, whose operand word is the number that R86 gives for its operands. -/
theorem assemblerEncodesLinesAndRefusesOutOfRange : Obligations.AssemblerEncodesLinesAndRefusesOutOfRange := by
  refine ⟨fun m => ?send, ?receive, fun track secs => ?play, fun cd track => ?changed, fun cd => ?status, fun x => ?chkpar⟩
  case send => exact assembleLine_of_command (.send m) (m < 2 ^ 64) rfl rfl decide_eq_true_iff
  case receive => exact (assembleLine_of_command .receive True rfl rfl (iff_of_true rfl trivial)).trans (if_pos trivial)
  case play =>
    rw [assembleLine_of_command (.play track secs) (track < 256 ∧ secs < 65536) rfl rfl (by simp [Line.wellFormed])]
    split
    next h => rw [encodeArg, ofNat_append_ofNat_setWidth secs track h.2 h.1]; rfl
    next => rfl
  case changed =>
    rw [assembleLine_of_command (.changed cd track) (cd < 256 ∧ track < 256) rfl rfl (by simp [Line.wellFormed])]
    split
    next h => rw [encodeArg, ofNat_append_ofNat_setWidth track cd h.2 h.1]; rfl
    next => rfl
  case status =>
    rw [assembleLine_of_command (.status cd) (cd < 256) rfl rfl decide_eq_true_iff]
    split
    next h =>
      have hfield : (BitVec.ofNat 8 cd).setWidth 64 = BitVec.ofNat 64 cd := by
        apply BitVec.eq_of_toNat_eq
        rw [BitVec.toNat_setWidth, BitVec.toNat_ofNat, BitVec.toNat_ofNat, Nat.mod_eq_of_lt h]
      rw [encodeArg, hfield]
      rfl
    next => rfl
  case chkpar => exact assembleLine_of_command (.chkpar x) (x < 2 ^ 64) rfl rfl decide_eq_true_iff

end Machine
end Sys2Proof
end

section
/-! PROOFS. What a tick does, whatever the command: the parts of R40 in order, what each one leaves alone, and the rules about
the whole machine that follow (R21, R25, R26, R29, R201 to R205, R223). -/

namespace Sys2Proof.Machine

/-! The command phase -/

/-- All that an accepted command can do: SEND and the builders start a frame, RECEIVE fails or starts a window, CHECK_PARITY
writes `RESULT_OK`. -/
theorem acceptedState_cases (i : Instr) (s : State) :
    (i ≠ .receive ∧ (∀ x, i ≠ .checkParity x) ∧ ∃ m, acceptedState i s = startTx m s) ∨
    (i = .receive ∧ acceptedState i s = finishRx false 0#_ s) ∨
    (i = .receive ∧ acceptedState i s = startRx s) ∨
    (∃ x, i = .checkParity x ∧ acceptedState i s = complete { s with resultOk := checkParity x }) := by
  cases i with
  | receive =>
    cases h : sample s with
    | high => exact .inr (.inl ⟨rfl, acceptedState_receive_of_high h⟩)
    | low => exact .inr (.inr (.inl ⟨rfl, acceptedState_receive_of_low h⟩))
  | checkParity x => exact .inr (.inr (.inr ⟨x, rfl, rfl⟩))
  | _ => exact .inl ⟨nofun, nofun, _, rfl⟩

/-- `commandPhase_cases`, for a command phase whose next state is known. -/
theorem commandPhase_next_cases {s s1 : State} (h : commandPhase s = .next s1) :
    (offered s = none ∧ s1 = s) ∨
    (∃ w i, offered s = some w ∧ decode w = .ok i ∧ accepting s = true ∧ s1 = acceptedState i s) ∨
    (∃ w e, offered s = some w ∧ decode w = .error e ∧ accepting s = true ∧ s1 = recordFault causeIllegalCmd s) ∨
    (∃ w, offered s = some w ∧ accepting s = false ∧ s1 = cmdWhileBusy s) := by
  rcases commandPhase_cases s with ⟨ho, hc⟩ | ⟨w, i, ho, hd, ha, hc⟩ | ⟨w, e, ho, hd, ha, hc⟩ | ⟨w, ho, ha, hc⟩ <;>
    obtain rfl := Host.Outcome.next.inj (hc.symm.trans h)
  · exact .inl ⟨ho, rfl⟩
  · exact .inr (.inl ⟨w, i, ho, hd, ha, rfl⟩)
  · exact .inr (.inr (.inl ⟨w, e, ho, hd, ha, rfl⟩))
  · exact .inr (.inr (.inr ⟨w, ho, ha, rfl⟩))

theorem commandPhase_answers_next (s : State) : ∃ s1, commandPhase s = .next s1 := by
  rcases commandPhase_cases s with ⟨-, hc⟩ | ⟨w, i, -, -, -, hc⟩ | ⟨w, e, -, -, -, hc⟩ | ⟨w, -, -, hc⟩ <;> exact ⟨_, hc⟩

@[simp] theorem acceptedState_params (i : Instr) (s : State) : (acceptedState i s).params = s.params := by
  cases i with
  | receive => rw [acceptedState]; split <;> rfl
  | _ => rfl

@[simp] theorem acceptedState_now (i : Instr) (s : State) : (acceptedState i s).now = s.now := by
  cases i with
  | receive => rw [acceptedState]; split <;> rfl
  | _ => rfl

@[simp] theorem acceptedState_unspec (i : Instr) (s : State) : (acceptedState i s).unspec = s.unspec := by
  cases i with
  | receive => rw [acceptedState]; split <;> rfl
  | _ => rfl

/-- R223: no command writes a parameter. -/
theorem commandPhase_params {s s1 : State} (h : commandPhase s = .next s1) : s1.params = s.params := by
  rcases commandPhase_next_cases h with ⟨-, rfl⟩ | ⟨w, i, -, -, -, rfl⟩ | ⟨w, e, -, -, -, rfl⟩ | ⟨w, -, -, rfl⟩ <;> simp

theorem commandPhase_now {s s1 : State} (h : commandPhase s = .next s1) : s1.now = s.now := by
  rcases commandPhase_next_cases h with ⟨-, rfl⟩ | ⟨w, i, -, -, -, rfl⟩ | ⟨w, e, -, -, -, rfl⟩ | ⟨w, -, -, rfl⟩ <;> simp

/-- R204: a fault stays, with its cause, in a command phase. -/
theorem commandPhase_of_fault {s s1 : State} (hf : s.fault = true) (h : commandPhase s = .next s1) :
    s1.fault = true ∧ s1.faultCause = s.faultCause := by
  rcases commandPhase_next_cases h with ⟨-, rfl⟩ | ⟨w, i, -, -, -, rfl⟩ | ⟨w, e, -, -, -, rfl⟩ | ⟨w, -, -, rfl⟩ <;> simp [hf]

/-- R203: a command phase does not end the unspecified regime. -/
theorem commandPhase_of_unspec {s s1 : State} (hu : s.unspec = true) (h : commandPhase s = .next s1) :
    s1.unspec = true := by
  rcases commandPhase_next_cases h with ⟨-, rfl⟩ | ⟨w, i, -, -, -, rfl⟩ | ⟨w, e, -, -, -, rfl⟩ | ⟨w, -, -, rfl⟩ <;> simp [hu]

/-! Steps -/

/-- Settles O9: the command phase always has a next state, and so has the tick. -/
theorem everyTickHasANextState : Obligations.EveryTickHasANextState := by
  intro s
  obtain ⟨s1, hc⟩ := commandPhase_answers_next s
  cases hr : (hostPins s).rst with
  | true => exact ⟨_, step_of_rst hr⟩
  | false => exact ⟨_, step_of_commandPhase hr hc⟩

/-- Settles O8: the command phase is `exec` of the decoded command, or nothing. -/
theorem stepRunsTheDecodedInstruction : Obligations.StepRunsTheDecodedInstruction := by
  refine ⟨fun s w i hr ho hd => ?_, fun s hr ho => ?_, fun s s1 hu hu1 => finishTick_specified hu hu1⟩
  · obtain ⟨s1, hexec⟩ := exec_answers_next i s
    exact ⟨s1, hexec, step_of_commandPhase hr ((commandPhase_of_decoded ho hd).trans hexec)⟩
  · exact step_of_commandPhase hr (commandPhase_of_not_offered ho)

/-- A tick without reset is a command phase and its finish. -/
theorem step_without_reset {s t : State} (hr : (hostPins s).rst = false) (h : step s = .next t) :
    ∃ s1, commandPhase s = .next s1 ∧ t = finishTick s s1 := by
  rcases step_cases h with ⟨hrst, -⟩ | ⟨-, hfinish⟩
  · exact absurd (hr.symm.trans hrst) (by decide)
  · exact hfinish

/-- A tick with reset is a `resetTick`. -/
theorem step_with_reset {s t : State} (hr : (hostPins s).rst = true) (h : step s = .next t) : t = resetTick s :=
  Host.Outcome.next.inj (h.symm.trans (step_of_rst hr))

/-- R40: a tick without reset that ends outside the unspecified regime began outside it, and its engine ran on what the
command phase left. -/
theorem step_specified {s t : State} (hr : (hostPins s).rst = false) (hu : t.unspec = false) (h : step s = .next t) :
    ∃ s1, commandPhase s = .next s1 ∧ s.unspec = false ∧ s1.unspec = false ∧
      t = advance (setHost (hostRest s) (engine s1)) := by
  obtain ⟨s1, hc, rfl⟩ := step_without_reset hr h
  have hu1 : s1.unspec = false := (finishTick_unspec s s1).symm.trans hu
  have hus : s.unspec = false := eq_false_of_ne_true fun hus => by simp [commandPhase_of_unspec hus hc] at hu1
  exact ⟨s1, hc, hus, hu1, finishTick_specified hus hu1⟩

/-- Settles O28: no part of a tick writes a parameter. -/
theorem parametersNeverChange : Obligations.ParametersNeverChange := by
  intro s t h
  rcases step_cases h with ⟨-, rfl⟩ | ⟨-, s1, hc, rfl⟩
  · exact resetTick_params s
  · exact (finishTick_params s s1).trans (commandPhase_params hc)

/-- Settles O24: what `resetTick` writes. -/
theorem resetTickRestoresTheResetValues : Obligations.ResetTickRestoresTheResetValues := by
  intro s hr
  exact ⟨resetTick s, step_of_rst hr, resetTick_outLine s, resetTick_busy s, resetTick_curOp s, resetTick_resultOk s,
    resetTick_rxData s, resetTick_fault s, resetTick_faultCause s, resetTick_unspec s, resetTick_params s⟩

/-! Faults and the unspecified regime -/

/-- R203: what a command that is turned away writes. -/
theorem cmdWhileBusy_eq (s : State) :
    cmdWhileBusy s =
      { s with fault := true, faultCause := if s.fault then s.faultCause else 2#2, unspec := true } := by
  rw [cmdWhileBusy, recordFault_eq]
  rfl

/-- Settles O19: a block that does not accept commands turns every word away. -/
theorem busyBlockTurnsCommandsAway : Obligations.BusyBlockTurnsCommandsAway := by
  intro s ha
  rw [← cmdWhileBusy_eq]
  refine ⟨fun i => ?_, fun w e ho _ => commandPhase_of_not_accepting ha ho⟩
  rw [exec_eq_offer, offer_of_not_accepting ha]

/-- R203, R40: only the engine phase moves the line in a tick. -/
@[simp] theorem finishTick_outLine (s s1 : State) :
    (finishTick s s1).outLine = (engineOrUnspec s.unspec s1).outLine := by
  unfold finishTick
  dsimp only
  split <;> simp

theorem txBit_cmdWhileBusy (s : State) : txBit (cmdWhileBusy s) = txBit s := by
  simp [txBit]

/-- Settles O20: turning the command away leaves `cur_op` and the transmit registers, so the engine phase of the tick
transmits. -/
theorem busyFaultTickStillDrivesTheLine : Obligations.BusyFaultTickStillDrivesTheLine := by
  intro s w hu htx hr ho
  have ha : accepting s = false := (accepting_eq_false_iff s).2 (.inr (by simp [htx]))
  refine ⟨_, step_of_commandPhase hr (commandPhase_of_not_accepting ha ho), ?_, by simp⟩
  have hengine : engineOrUnspec false (cmdWhileBusy s) = txTick (cmdWhileBusy s) := engine_tx (by simpa using htx)
  rw [finishTick_outLine, hu, hengine, txTick_outLine, txBit_cmdWhileBusy, cmdWhileBusy_params, cmdWhileBusy_tx]

/-- Settles O22: no part of a tick without reset takes a fault back. -/
theorem faultStaysUntilReset : Obligations.FaultStaysUntilReset := by
  intro s t hf hr h
  obtain ⟨s1, hc, rfl⟩ := step_without_reset hr h
  rw [finishTick_fault, finishTick_faultCause]
  exact commandPhase_of_fault hf hc

/-- Settles O21: the regime is a faulted one, so its fault stays, and no part of a tick without reset ends it. -/
theorem unspecifiedRegimeEndsOnlyByReset : Obligations.UnspecifiedRegimeEndsOnlyByReset := by
  intro s t hinv hu h
  obtain ⟨-, -, hfaulted⟩ := hinv
  refine ⟨fun hr => ?_, fun hr => ?_⟩
  · obtain ⟨hf, hcause⟩ := faultStaysUntilReset s t (hfaulted hu) hr h
    obtain ⟨s1, hc, rfl⟩ := step_without_reset hr h
    exact ⟨(finishTick_unspec s s1).trans (commandPhase_of_unspec hu hc), hf, hcause,
      parametersNeverChange s _ h⟩
  · obtain rfl := step_with_reset hr h
    exact ⟨rfl, rfl, rfl⟩

/-- Settles O23: of the four things a command phase can do, two raise a fault. -/
theorem faultHasTwoCauses : Obligations.FaultHasTwoCauses := by
  intro s t hu hf h hft
  rcases step_cases h with ⟨-, rfl⟩ | ⟨hr, s1, hc, rfl⟩
  · cases hft
  · rw [finishTick_fault] at hft
    rw [finishTick_faultCause]
    refine ⟨hr, ?_⟩
    rcases commandPhase_next_cases hc with ⟨-, rfl⟩ | ⟨w, i, -, -, -, rfl⟩ | ⟨w, e, ho, hd, ha, rfl⟩ | ⟨w, ho, ha, rfl⟩
    · exact absurd (hf.symm.trans hft) (by decide)
    · rw [acceptedState_fault] at hft
      exact absurd (hf.symm.trans hft) (by decide)
    · obtain ⟨-, hidle⟩ := (accepting_iff s).1 ha
      exact ⟨w, ho, .inr ⟨hidle, ⟨e, hd⟩, by simp [hf, causeIllegalCmd]⟩⟩
    · have hbusy : s.curOp ≠ .idle := by simpa [accepting, hu] using ha
      exact ⟨w, ho, .inl ⟨hbusy, by simp [hf, causeCmdWhileBusy]⟩⟩

/-! The results and the line -/

/-- R25, R26: the engines write a result only in the last tick of a window. -/
theorem engine_keeps_results {s : State} (h : ¬(s.curOp = .rx ∧ rxLast s = true)) :
    (engine s).rxData = s.rxData ∧ (engine s).resultOk = s.resultOk := by
  cases hop : s.curOp with
  | idle => rw [engine_idle hop]; exact ⟨rfl, rfl⟩
  | tx => rw [engine_tx hop]; exact ⟨txTick_rxData s, txTick_resultOk s⟩
  | rx =>
    rw [engine_rx hop]
    rcases rxTick_cases s with ⟨-, heq⟩ | ⟨hlast, -⟩
    · rw [heq]; exact ⟨rfl, rfl⟩
    · exact absurd ⟨hop, hlast⟩ h

/-- R25, R26, R128: what an accepted command other than RECEIVE leaves of the results at the end of its tick. -/
theorem engine_acceptedState_results {i : Instr} {s : State} (hi : i ≠ .receive) :
    (engine (acceptedState i s)).rxData = s.rxData ∧
      ((∀ x, i ≠ .checkParity x) → (engine (acceptedState i s)).resultOk = s.resultOk) := by
  rcases acceptedState_cases i s with ⟨-, -, m, heq⟩ | ⟨hrec, -⟩ | ⟨hrec, -⟩ | ⟨x, hx, heq⟩
  · obtain ⟨hdata, hok⟩ := engine_keeps_results (s := startTx m s) (by simp)
    rw [heq]
    exact ⟨hdata, fun _ => hok⟩
  · exact absurd hrec hi
  · exact absurd hrec hi
  · rw [heq, engine_idle (complete_curOp _)]
    exact ⟨rfl, fun hne => absurd hx (hne x)⟩

/-- Settles O29: the command phase writes results in RECEIVE and CHECK_PARITY only, and the engines in the last tick of a
window only. -/
theorem resultsAreWrittenOnlyByReceiveAndCheckParity : Obligations.ResultsAreWrittenOnlyByReceiveAndCheckParity := by
  intro s t _ hut hr h
  obtain ⟨s1, hc, hu, hu1, rfl⟩ := step_specified hr hut h
  simp only [advance_rxData, advance_resultOk, setHost_rxData, setHost_resultOk]
  rcases commandPhase_next_cases hc with ⟨-, rfl⟩ | ⟨w, i, ho, hd, ha, rfl⟩ | ⟨w, e, ho, hd, ha, rfl⟩ | ⟨w, -, -, rfl⟩
  · by_cases hlast : s1.curOp = .rx ∧ rxLast s1 = true
    · exact ⟨fun _ => .inl hlast, fun _ => .inl hlast⟩
    · obtain ⟨hdata, hok⟩ := engine_keeps_results hlast
      exact ⟨fun hne => absurd hdata hne, fun hne => absurd hok hne⟩
  · obtain ⟨-, hidle⟩ := (accepting_iff s).1 ha
    by_cases hi : i = .receive
    · subst hi
      exact ⟨fun _ => .inr ⟨hidle, w, ho, hd⟩, fun _ => .inr ⟨hidle, w, ho, .inl hd⟩⟩
    · obtain ⟨hdata, hok⟩ := engine_acceptedState_results (s := s) hi
      refine ⟨fun hne => absurd hdata hne, fun hne => .inr ⟨hidle, w, ho, .inr ?_⟩⟩
      by_contra hparity
      exact hne (hok fun x hx => hparity ⟨x, hx ▸ hd⟩)
  · obtain ⟨-, hidle⟩ := (accepting_iff s).1 ha
    rw [engine_idle (by simpa using hidle)]
    simp
  · cases hu1

/-- R21: an engine that does not transmit keeps the line. -/
theorem engine_keeps_outLine {s : State} (h : s.curOp ≠ .tx) : (engine s).outLine = s.outLine := by
  cases hop : s.curOp with
  | idle => rw [engine_idle hop]
  | tx => exact absurd hop h
  | rx => rw [engine_rx hop, rxTick_outLine]

/-- R21: an accepted RECEIVE or CHECK_PARITY keeps the line in its tick. -/
theorem engine_acceptedState_outLine {i : Instr} {s : State} (hi : i = .receive ∨ ∃ x, i = .checkParity x) :
    (engine (acceptedState i s)).outLine = s.outLine := by
  rcases acceptedState_cases i s with ⟨hrec, hparity, -⟩ | ⟨-, heq⟩ | ⟨-, heq⟩ | ⟨x, -, heq⟩
  · exact absurd hi (not_or.2 ⟨hrec, fun ⟨x, hx⟩ => hparity x hx⟩)
  all_goals
    rw [heq]
    exact engine_keeps_outLine (by simp)

/-- Settles O30: only the transmit engine drives the line, and only SEND and the builders start it. -/
theorem outLineMovesOnlyInATransmission : Obligations.OutLineMovesOnlyInATransmission := by
  intro s t hu h
  refine ⟨fun hr => ?_, fun hr hne => ?_⟩
  · rw [step_with_reset hr h, resetTick_outLine]
  · by_contra hnot
    obtain ⟨htx, hstart⟩ := not_or.1 hnot
    obtain ⟨s1, hc, rfl⟩ := step_without_reset hr h
    have hengine : (finishTick s s1).outLine = (engine s1).outLine := by rw [finishTick_outLine, hu]; rfl
    rw [hengine] at hne
    rcases commandPhase_next_cases hc with ⟨-, rfl⟩ | ⟨w, i, ho, hd, ha, rfl⟩ | ⟨w, e, -, -, -, rfl⟩ | ⟨w, -, -, rfl⟩
    · exact hne (engine_keeps_outLine htx)
    · obtain ⟨-, hidle⟩ := (accepting_iff s).1 ha
      refine hne (engine_acceptedState_outLine ?_)
      by_contra hi
      obtain ⟨hrec, hparity⟩ := not_or.1 hi
      exact hstart ⟨hidle, w, i, ho, hd, hrec, fun x hx => hparity ⟨x, hx⟩⟩
    · exact hne (by rw [engine_keeps_outLine (by simpa using htx), recordFault_outLine])
    · exact hne (by rw [engine_keeps_outLine (by simpa using htx), cmdWhileBusy_outLine])

end Sys2Proof.Machine
end

section
/-! PROOFS. What a tick reads: the phases of a tick commute with the moves of the state that they do not look at, which are
another script of the host (R175), another script of the environment (R22) and another origin of time (R31). -/

namespace Sys2Proof.Machine

/-! What an engine needs to commute with a move of the state -/

/-- R126: the transmit engine commutes with every move of what it neither reads nor writes. -/
theorem txTick_comm {f : State → State} {s : State} (hparams : (f s).params = s.params) (htx : (f s).tx = s.tx)
    (hbit : txBit (f s) = txBit s) (hgoes : ∀ lv r, drive lv (setTx r (f s)) = f (drive lv (setTx r s)))
    (hends : ∀ lv r, drive lv (complete (setTx r (f s))) = f (drive lv (complete (setTx r s)))) :
    txTick (f s) = f (txTick s) := by
  simp only [txTick, hparams, htx, hbit, hgoes, hends]
  split
  · split <;> rfl
  · rfl

/-- R40: the engine phase commutes with a move that leaves `cur_op` and that the running engine commutes with. -/
theorem engine_comm {f : State → State} {s : State} (hop : (f s).curOp = s.curOp)
    (htx : s.curOp = .tx → txTick (f s) = f (txTick s)) (hrx : s.curOp = .rx → rxTick (f s) = f (rxTick s)) :
    engine (f s) = f (engine s) := by
  cases h : s.curOp with
  | idle => rw [engine_idle h, engine_idle (hop.trans h)]
  | tx => rw [engine_tx h, engine_tx (hop.trans h), htx h]
  | rx => rw [engine_rx h, engine_rx (hop.trans h), hrx h]

/-! Another script of the host -/

theorem cmdWhileBusy_setHost (acts : List HostAct) (s : State) :
    cmdWhileBusy (setHost acts s) = setHost acts (cmdWhileBusy s) := by
  rw [cmdWhileBusy_eq, cmdWhileBusy_eq]
  rfl

theorem acceptedState_setHost (i : Instr) (acts : List HostAct) (s : State) :
    acceptedState i (setHost acts s) = setHost acts (acceptedState i s) := by
  cases i with
  | receive => simp only [acceptedState, apply_ite (setHost acts)]; rfl
  | _ => rfl

theorem rxTick_setHost (acts : List HostAct) (s : State) : rxTick (setHost acts s) = setHost acts (rxTick s) := by
  rcases rxTick_cases s with ⟨hmid, heq⟩ | ⟨hlast, heq⟩
  · rw [heq]; exact if_neg (ne_true_of_eq_false hmid)
  · rw [heq]; exact if_pos hlast

theorem engine_setHost (acts : List HostAct) (s : State) : engine (setHost acts s) = setHost acts (engine s) :=
  engine_comm rfl (fun _ => txTick_setHost acts s) fun _ => rxTick_setHost acts s

/-- The host's script matters to the rest of a tick only by what is left of it. -/
theorem finishTick_setHost (a b : List HostAct) (s s1 : State) :
    finishTick (setHost a s) (setHost b s1) = setHost (hostRest (setHost a s)) (finishTick s s1) := by
  have hengine : engineOrUnspec s.unspec (setHost b s1) = setHost b (engineOrUnspec s.unspec s1) := by
    simp only [engineOrUnspec, engine_setHost, apply_ite (setHost b)]
    rfl
  simp only [finishTick, setHost_unspec, hengine]
  split <;> rfl

/-- R84: the tick in which the host offers the command `i`, at a block that takes it and at one that turns it away. -/
theorem step_of_offerOf (i : Instr) (acts : List HostAct) (s : State) :
    step (setHost (offerOf i :: acts) s) =
      .next (setHost acts (finishTick s (if accepting s = true then acceptedState i s else cmdWhileBusy s))) := by
  have ho : offered (setHost (offerOf i :: acts) s) = some (encode i) := offered_of_offer rfl
  have hd : decode (encode i) = .ok i := decodeOfEncodeIsTheInstruction i
  have hc : commandPhase (setHost (offerOf i :: acts) s) =
      .next (setHost (offerOf i :: acts) (if accepting s = true then acceptedState i s else cmdWhileBusy s)) := by
    split
    next ha => rw [← acceptedState_setHost]; exact commandPhase_of_accepted ha ho hd
    next ha => rw [← cmdWhileBusy_setHost]; exact commandPhase_of_not_accepting (eq_false_of_ne_true ha) ho
  rw [step_of_commandPhase rfl hc, finishTick_setHost]
  rfl

/-- R175: two commands that an accepting block takes alike are alike in every tick. -/
theorem step_of_offerOf_congr {i j : Instr} {s : State} (h : acceptedState i s = acceptedState j s)
    (acts : List HostAct) : step (setHost (offerOf i :: acts) s) = step (setHost (offerOf j :: acts) s) := by
  rw [step_of_offerOf, step_of_offerOf, h]

/-- Settles O18: each builder is accepted as the SEND of its composed value is. -/
theorem buildersActAsSendOfTheirValue : Obligations.BuildersActAsSendOfTheirValue :=
  fun s acts track cd secs =>
    ⟨step_of_offerOf_congr (i := .sendPlayingTrack track secs) (j := .send (composePlay s.params track secs)) rfl acts,
      step_of_offerOf_congr (i := .sendChangedCd cd track) (j := .send (composeChanged s.params cd track)) rfl acts,
      step_of_offerOf_congr (i := .sendCdStatus cd) (j := .send (composeStatus s.params cd)) rfl acts⟩

/-! Another script of the environment -/

theorem recordFault_setLine (c : BitVec 2) (l : List Level) (s : State) :
    recordFault c (setLine l s) = setLine l (recordFault c s) := by
  rw [recordFault_eq, recordFault_eq]
  rfl

theorem cmdWhileBusy_setLine (l : List Level) (s : State) :
    cmdWhileBusy (setLine l s) = setLine l (cmdWhileBusy s) := by
  rw [cmdWhileBusy_eq, cmdWhileBusy_eq]
  rfl

/-- R22: of the commands only RECEIVE looks at the input line. -/
theorem acceptedState_setLine {i : Instr} (hi : i ≠ .receive) (l : List Level) (s : State) :
    acceptedState i (setLine l s) = setLine l (acceptedState i s) := by
  cases i with
  | receive => exact absurd rfl hi
  | _ => rfl

/-- A command phase in which no RECEIVE is offered, in another environment; it starts no window. -/
theorem commandPhase_setLine {s s1 : State} (h : commandPhase s = .next s1)
    (hoff : ∀ w, offered s = some w → decode w ≠ .ok .receive) (l : List Level) :
    commandPhase (setLine l s) = .next (setLine l s1) ∧ (s.curOp ≠ .rx → s1.curOp ≠ .rx) := by
  rcases commandPhase_next_cases h with
    ⟨ho, rfl⟩ | ⟨w, i, ho, hd, ha, rfl⟩ | ⟨w, e, ho, hd, ha, rfl⟩ | ⟨w, ho, ha, rfl⟩
  · exact ⟨commandPhase_of_not_offered ho, id⟩
  · have hi : i ≠ .receive := fun hrec => hoff w ho (hrec ▸ hd)
    refine ⟨?_, fun _ => ?_⟩
    · rw [← acceptedState_setLine hi]
      exact commandPhase_of_accepted ha ho hd
    · rcases acceptedState_cases i s with ⟨-, -, m, heq⟩ | ⟨hrec, -⟩ | ⟨hrec, -⟩ | ⟨x, -, heq⟩
      · simp [heq]
      · exact absurd hrec hi
      · exact absurd hrec hi
      · simp [heq]
  · rw [← recordFault_setLine]
    exact ⟨commandPhase_of_reserved ha ho hd, by simp⟩
  · rw [← cmdWhileBusy_setLine]
    exact ⟨commandPhase_of_not_accepting ha ho, by simp⟩

/-- R22: of the engines only the receiver looks at the input line. -/
theorem engine_setLine {s : State} (h : s.curOp ≠ .rx) (l : List Level) :
    engine (setLine l s) = setLine l (engine s) :=
  engine_comm rfl (fun _ => txTick_comm rfl rfl rfl (fun _ _ => rfl) fun _ _ => rfl) fun hrx => absurd hrx h

theorem finishTick_setLine {s s1 : State} (h : s1.curOp ≠ .rx) (l : List Level) :
    finishTick (setLine l s) (setLine l s1) = setLine l.tail (finishTick s s1) := by
  have hengine : engineOrUnspec s.unspec (setLine l s1) = setLine l (engineOrUnspec s.unspec s1) := by
    simp only [engineOrUnspec, engine_setLine h, apply_ite (setLine l)]
    rfl
  simp only [finishTick, setLine_unspec, hengine]
  split <;> rfl

/-- R22: a tick that runs no receiver and is offered no RECEIVE, in another environment. -/
theorem step_setLine {s t : State} (hrx : s.curOp ≠ .rx) (hoff : ∀ w, offered s = some w → decode w ≠ .ok .receive)
    (h : step s = .next t) (l : List Level) : step (setLine l s) = .next (setLine l.tail t) := by
  rcases step_cases h with ⟨hr, rfl⟩ | ⟨hr, s1, hc, rfl⟩
  · exact step_of_rst hr
  · obtain ⟨hline, hkeeps⟩ := commandPhase_setLine hc hoff l
    rw [← finishTick_setLine (hkeeps hrx)]
    exact step_of_commandPhase hr hline

/-- Settles O31: `step_setLine` between the two environments. -/
theorem inLineIsReadOnlyByReceive : Obligations.InLineIsReadOnlyByReceive :=
  ⟨fun _ _ _ => rfl, fun s _ l1 l2 hrx hoff h => step_setLine (s := setLine l1 s) hrx hoff h l2⟩

/-! Another origin of time -/

section Shift

variable {d : Nat} {s : State}

@[simp] theorem shiftNow_params : (shiftNow d s).params = s.params := rfl
@[simp] theorem shiftNow_now : (shiftNow d s).now = s.now + d := rfl

/-- The receive registers with both timestamps moved by `d`. -/
def shiftRx (d : Nat) (r : RxRegs) : RxRegs := { r with tstart := r.tstart + d, tlast := r.tlast + d }

@[simp] theorem shiftNow_rx : (shiftNow d s).rx = shiftRx d s.rx := rfl

/-- R31: an elapsed time does not see the origin of time. -/
theorem elapsed_add {p : Params} (hclk : p.clkBits = none) (now t d : Nat) :
    elapsed p (now + d) (t + d) = elapsed p now t := by
  rw [elapsed_unbounded hclk, elapsed_unbounded hclk, Nat.add_sub_add_right]

theorem rxSample_shiftRx {p : Params} (hclk : p.clkBits = none) (lv : Level) (now : Nat) (r : RxRegs) :
    rxSample p lv (now + d) (shiftRx d r) = shiftRx d (rxSample p lv now r) := by
  have helapsed : elapsed p (now + d) (shiftRx d r).tlast = elapsed p now r.tlast := elapsed_add hclk now r.tlast d
  rcases rxSample_cases p lv now r with ⟨rfl, hpo, b, hb, heq⟩ | ⟨rfl, hpo, hnone, heq⟩ | ⟨rfl, hpo, heq⟩ |
    ⟨rfl, hpo, heq⟩ | ⟨rfl, hpo, heq⟩ <;> rw [heq]
  · rw [← helapsed] at hb
    exact rxSample_high_of_some hpo hb
  · rw [← helapsed] at hnone
    refine (rxSample_high_of_none (r := shiftRx d r) hpo hnone).trans ?_
    split <;> rfl
  · exact rxSample_high_of_po hpo
  · exact rxSample_low_of_po hpo
  · exact rxSample_low_of_not_po hpo

theorem recordFault_shiftNow (c : BitVec 2) : recordFault c (shiftNow d s) = shiftNow d (recordFault c s) := by
  rw [recordFault_eq, recordFault_eq]
  rfl

theorem cmdWhileBusy_shiftNow : cmdWhileBusy (shiftNow d s) = shiftNow d (cmdWhileBusy s) := by
  rw [cmdWhileBusy_eq, cmdWhileBusy_eq]
  rfl

/-- R142: RECEIVE takes its timestamps from `NOW`, so they move with it. -/
theorem acceptedState_shiftNow (i : Instr) : acceptedState i (shiftNow d s) = shiftNow d (acceptedState i s) := by
  cases i with
  | receive => simp only [acceptedState, apply_ite (shiftNow d)]; rfl
  | _ => rfl

theorem commandPhase_shiftNow {s1 : State} (h : commandPhase s = .next s1) :
    commandPhase (shiftNow d s) = .next (shiftNow d s1) := by
  rcases commandPhase_next_cases h with
    ⟨ho, rfl⟩ | ⟨w, i, ho, hd, ha, rfl⟩ | ⟨w, e, ho, hd, ha, rfl⟩ | ⟨w, ho, ha, rfl⟩
  · exact commandPhase_of_not_offered ho
  · rw [← acceptedState_shiftNow]
    exact commandPhase_of_accepted ha ho hd
  · rw [← recordFault_shiftNow]
    exact commandPhase_of_reserved ha ho hd
  · rw [← cmdWhileBusy_shiftNow]
    exact commandPhase_of_not_accepting ha ho

theorem rxTick_shiftNow (hclk : s.params.clkBits = none) : rxTick (shiftNow d s) = shiftNow d (rxTick s) := by
  have hlast : rxLast (shiftNow d s) = rxLast s := by
    simp only [rxLast, shiftNow_params, shiftNow_now, shiftNow_rx, shiftRx, elapsed_add hclk]
  have hsample : rxSample (shiftNow d s).params (sample (shiftNow d s)) (shiftNow d s).now (shiftNow d s).rx =
      shiftRx d (rxSample s.params (sample s) s.now s.rx) := rxSample_shiftRx hclk _ _ _
  simp only [rxTick, hlast, hsample]
  split <;> rfl

theorem engine_shiftNow (hclk : s.params.clkBits = none) : engine (shiftNow d s) = shiftNow d (engine s) :=
  engine_comm rfl (fun _ => txTick_comm rfl rfl rfl (fun _ _ => rfl) fun _ _ => rfl) fun _ => rxTick_shiftNow hclk

theorem advance_shiftNow (hclk : s.params.clkBits = none) : advance (shiftNow d s) = shiftNow d (advance s) := by
  simp only [advance, shiftNow, nextNow_unbounded hclk, Nat.add_right_comm]

end Shift

/-- Settles O32: each phase of the tick keeps the relation of the two states. -/
theorem nowIsReadOnlyAsADifference : Obligations.NowIsReadOnlyAsADifference := by
  intro d s t hclk hr hut h
  obtain ⟨s1, hc, hu, hu1, rfl⟩ := step_specified hr hut h
  have hclk1 : s1.params.clkBits = none := by rw [commandPhase_params hc, hclk]
  have hrest : hostRest (shiftNow d s) = hostRest s := rfl
  rw [step_of_commandPhase (s := shiftNow d s) hr (commandPhase_shiftNow hc),
    finishTick_specified (s := shiftNow d s) (s1 := shiftNow d s1) hu hu1, hrest, engine_shiftNow hclk1,
    ← advance_shiftNow (s := setHost (hostRest s) (engine s1)) (by simpa using hclk1)]
  rfl

/-! Elapsed times -/

/-- R31: what an elapsed time is under a clock of `n` bits. -/
theorem elapsed_finite {p : Params} {n : Nat} (h : p.clkBits = some n) (now t : Nat) :
    elapsed p now t = (now + 2 ^ n - t % 2 ^ n) % 2 ^ n := by
  simp [elapsed, h]

theorem nextNow_finite {p : Params} {n : Nat} (h : p.clkBits = some n) (t : Nat) :
    nextNow p t = (t + 1) % 2 ^ n := by
  simp [nextNow, h]

/-- R31: under a finite clock an elapsed time is the difference mod `2^CLK_BITS`. -/
theorem elapsed_eq_int_emod {p : Params} {n : Nat} (h : p.clkBits = some n) (now t : Nat) :
    (elapsed p now t : Int) = ((now : Int) - t) % 2 ^ n := by
  have hpos : 0 < 2 ^ n := Nat.two_pow_pos n
  have hlt : t % 2 ^ n < 2 ^ n := Nat.mod_lt t hpos
  have hsub : ((now + 2 ^ n - t % 2 ^ n : Nat) : Int) = (now : Int) - t % (2 ^ n : Int) + 2 ^ n := by
    rw [Nat.cast_sub (by omega)]
    push_cast
    ring
  rw [elapsed_finite h, Int.natCast_emod, hsub, Nat.cast_pow, Nat.cast_ofNat, Int.add_emod_right, Int.sub_emod,
    Int.emod_emod_of_dvd _ (dvd_refl _), ← Int.sub_emod]

/-- R31: a wait shorter than a finite clock's period is measured right, over a wrap too. -/
theorem elapsed_wrapped {p : Params} {n : Nat} (h : p.clkBits = some n) (t : Nat) {d : Nat} (hd : d < 2 ^ n) :
    elapsed p ((t + d) % 2 ^ n) (t % 2 ^ n) = d := by
  have hint := elapsed_eq_int_emod h ((t + d) % 2 ^ n) (t % 2 ^ n)
  push_cast at hint
  rw [← Int.sub_emod, add_sub_cancel_left, Int.emod_eq_of_lt (Int.natCast_nonneg d) (by exact_mod_cast hd)] at hint
  exact_mod_cast hint

/-- Settles O33: `NOW` at the end of a tick, and the two clocks' differences. -/
theorem elapsedTimeIsADifferenceOfNow : Obligations.ElapsedTimeIsADifferenceOfNow := by
  refine ⟨fun s t hr h => ?_, fun p now t hclk hle => ?_, fun p n now t hclk => elapsed_eq_int_emod hclk now t,
    fun p n t d hclk hd => elapsed_wrapped hclk t hd⟩
  · obtain ⟨s1, hc, rfl⟩ := step_without_reset hr h
    rw [finishTick_now, commandPhase_params hc, commandPhase_now hc]
    exact ⟨fun hclk => nextNow_unbounded hclk s.now, fun n hclk => nextNow_finite hclk s.now⟩
  · rw [elapsed_unbounded hclk, Nat.cast_sub hle]

end Sys2Proof.Machine
end

section
/-! PROOFS. The machine's invariant: it holds at reset and every tick keeps it (R24, R27, R29, R32, R33, R143, R149). -/

namespace Sys2Proof.Machine

/-! The fault registers -/

theorem faultInv_recordFault {s : State} (c : BitVec 2) (hc0 : c ≠ 0#2) (hc3 : c ≠ 3#2) (h : FaultInv s) :
    FaultInv (recordFault c s) := by
  rcases recordFault_cases c s with ⟨-, heq⟩ | ⟨-, heq⟩
  · rw [heq]
    exact h
  · rw [heq]
    exact ⟨iff_of_false nofun hc0, hc3, fun _ => rfl⟩

theorem faultInv_cmdWhileBusy {s : State} (h : FaultInv s) : FaultInv (cmdWhileBusy s) := by
  obtain ⟨hiff, hne, -⟩ := faultInv_recordFault causeCmdWhileBusy (by decide) (by decide) h
  exact ⟨hiff, hne, fun _ => cmdWhileBusy_fault s⟩

/-- R29, R201: the command phase keeps what the fault registers promise. -/
theorem commandPhase_faultInv {s s1 : State} (h : FaultInv s) (hc : commandPhase s = .next s1) : FaultInv s1 := by
  rcases commandPhase_next_cases hc with ⟨-, rfl⟩ | ⟨w, i, -, -, -, rfl⟩ | ⟨w, e, -, -, -, rfl⟩ | ⟨w, -, -, rfl⟩
  · exact h
  · simpa [FaultInv] using h
  · exact faultInv_recordFault causeIllegalCmd (by decide) (by decide) h
  · exact faultInv_cmdWhileBusy h

theorem faultInv_finishTick {s s1 : State} (h : FaultInv s1) : FaultInv (finishTick s s1) := by
  simpa [FaultInv] using h

/-! `BUSY` and the transmit registers -/

/-- R32: an accepted message fills the transmit registers within their ranges. -/
theorem txInv_startTx {s : State} (m : Message) (hp : 1 ≤ s.params.timing.bitPeriod) : TxInv (startTx m s) := by
  intro _
  obtain ⟨hge, hle⟩ := frameBits_length_bounds m
  have hlen := startTx_len_toNat m s
  have hnib := frameBits_length m
  refine ⟨hlen.symm, ?_, ?_, ?_, ?_, hp⟩
  · rw [hlen, hnib, Nat.mul_mod_right]
  · rw [hlen]; exact hge
  · rw [hlen]; exact hle
  · rw [hlen]; exact Nat.lt_of_lt_of_le (show 0 < 4 by decide) hge

/-- R126: a tick of the transmit engine keeps the ranges. -/
theorem txInv_txTick {s : State} (hfit : s.params.timing.bitPeriod ≤ 2 ^ 12) (htx : s.curOp = .tx) (h : TxInv s) :
    TxInv (txTick s) := by
  obtain ⟨hbits, hmod, hge, hle, hk, hphi⟩ := h htx
  rcases txTick_cases s with ⟨hmid, heq⟩ | ⟨hend, hmore, heq⟩ | ⟨hend, hdone, heq⟩
  · rw [heq]
    intro _
    have hphi' : (s.tx.phi + 1#12).toNat < s.params.timing.bitPeriod := by
      rw [BitVec.toNat_add, BitVec.toNat_ofNat]
      omega
    exact ⟨hbits, hmod, hge, hle, hk, hphi'⟩
  · rw [heq]
    intro _
    have hk' : (s.tx.k + 1#7).toNat < s.tx.len.toNat := by
      have hne := mt BitVec.eq_of_toNat_eq hmore
      rw [BitVec.toNat_sub, BitVec.toNat_ofNat] at hne
      rw [BitVec.toNat_add, BitVec.toNat_ofNat]
      omega
    exact ⟨hbits, hmod, hge, hle, hk', Nat.zero_lt_of_lt hphi⟩
  · rw [heq]
    exact nofun

/-! The receive registers -/

/-- `RxInv` between the command phase and the engine phase of a tick: a window that starts in this tick has its low level in
it, so `rx_tlast` may be `NOW`. -/
def RxMidInv (s : State) : Prop :=
  s.curOp = .rx → s.params.clkBits = none →
    s.rx.tstart ≤ s.rx.tlast ∧ s.rx.tlast ≤ s.now ∧ s.now - s.rx.tstart < s.params.rxWindow ∧
      (s.rx.po = false → s.rx.cnt * (s.params.timing.rxT0Min + 1) ≤ s.rx.tlast - s.rx.tstart) ∧
      (s.rx.po = true → 1 ≤ s.rx.cnt ∧ (s.rx.cnt - 1) * (s.params.timing.rxT0Min + 1) ≤ s.rx.tlast - s.rx.tstart ∧
        s.rx.tlast + s.params.timing.rxT0Min < s.now)

theorem rxMidInv_of_rxInv {s : State} (h : RxInv s) : RxMidInv s := by
  intro hrx hclk
  obtain ⟨hstart, hlast, hrest⟩ := h hrx hclk
  exact ⟨hstart, Nat.le_of_lt hlast, hrest⟩

/-- R142: a window starts with no bit in it. -/
theorem rxMidInv_startRx {s : State} (hw : 1 ≤ s.params.rxWindow) : RxMidInv (startRx s) := by
  intro _ _
  simp only [startRx_rx, startRx_now, startRx_params, Nat.sub_self, Nat.zero_mul]
  exact ⟨Nat.le_refl _, Nat.le_refl _, hw, fun _ => Nat.le_refl 0, nofun⟩

/-- R143 to R149: the receive registers after a sample keep the spacing of the classifications, seen from the next tick. -/
theorem rxSample_spacing {p : Params} (hclk : p.clkBits = none) (lv : Level) {now : Nat} {r : RxRegs}
    (hstart : r.tstart ≤ r.tlast) (hlast : r.tlast ≤ now)
    (hlow : r.po = false → r.cnt * (p.timing.rxT0Min + 1) ≤ r.tlast - r.tstart)
    (hhigh : r.po = true → 1 ≤ r.cnt ∧ (r.cnt - 1) * (p.timing.rxT0Min + 1) ≤ r.tlast - r.tstart ∧
      r.tlast + p.timing.rxT0Min < now) :
    (rxSample p lv now r).tstart = r.tstart ∧ r.tstart ≤ (rxSample p lv now r).tlast ∧
      (rxSample p lv now r).tlast < now + 1 ∧
      ((rxSample p lv now r).po = false →
        (rxSample p lv now r).cnt * (p.timing.rxT0Min + 1) ≤ (rxSample p lv now r).tlast - r.tstart) ∧
      ((rxSample p lv now r).po = true → 1 ≤ (rxSample p lv now r).cnt ∧
        ((rxSample p lv now r).cnt - 1) * (p.timing.rxT0Min + 1) ≤ (rxSample p lv now r).tlast - r.tstart ∧
        (rxSample p lv now r).tlast + p.timing.rxT0Min < now + 1) := by
  have hnow : r.tlast < now + 1 := Nat.lt_succ_of_le hlast
  have hkept : r.po = true → 1 ≤ r.cnt ∧ (r.cnt - 1) * (p.timing.rxT0Min + 1) ≤ r.tlast - r.tstart ∧
      r.tlast + p.timing.rxT0Min < now + 1 := fun hpo => by
    obtain ⟨hcnt, hspace, hlate⟩ := hhigh hpo
    exact ⟨hcnt, hspace, Nat.lt_succ_of_lt hlate⟩
  rcases rxSample_cases p lv now r with ⟨rfl, hpo, b, hb, heq⟩ | ⟨rfl, hpo, -, heq⟩ | ⟨rfl, hpo, heq⟩ |
    ⟨rfl, hpo, heq⟩ | ⟨rfl, hpo, heq⟩
  · have hmeasured := le_of_rxClassify hb
    rw [elapsed_unbounded hclk] at hmeasured
    rw [heq]
    exact ⟨rfl, hstart, hnow, nofun, fun _ => ⟨Nat.le_add_left 1 r.cnt, hlow hpo,
      show r.tlast + p.timing.rxT0Min < now + 1 by omega⟩⟩
  · rw [heq]
    split
    · exact ⟨rfl, hstart, hnow, hlow, hkept⟩
    · exact ⟨rfl, hstart, hnow, hlow, hkept⟩
  · rw [heq]
    exact ⟨rfl, hstart, hnow, hlow, hkept⟩
  · rw [heq]
    refine ⟨rfl, Nat.le_trans hstart hlast, Nat.lt_succ_self now, fun _ => ?_, nofun⟩
    obtain ⟨hcnt, hspace, hlate⟩ := hhigh hpo
    have hone : r.cnt * (p.timing.rxT0Min + 1) =
        (r.cnt - 1) * (p.timing.rxT0Min + 1) + (p.timing.rxT0Min + 1) := by
      rw [← Nat.succ_mul, Nat.succ_eq_add_one, Nat.sub_add_cancel hcnt]
    show r.cnt * (p.timing.rxT0Min + 1) ≤ now - r.tstart
    omega
  · rw [heq]
    exact ⟨rfl, hstart, hnow, hlow, hkept⟩

/-- R143: a tick of the receive engine keeps the receive registers' part of the invariant, or ends the window. -/
theorem rxInv_advance_rxTick {s : State} (acts : List HostAct) (hrx : s.curOp = .rx) (h : RxMidInv s) :
    RxInv (advance (setHost acts (rxTick s))) := by
  rcases rxTick_cases s with ⟨hmid, heq⟩ | ⟨-, heq⟩
  · intro _ hclk
    replace hclk : s.params.clkBits = none := by simpa using hclk
    obtain ⟨hstart, hlast, hwin, hlow, hhigh⟩ := h hrx hclk
    obtain ⟨htstart, hspacing⟩ := rxSample_spacing hclk (sample s) hstart hlast hlow hhigh
    have hmore : s.now - s.rx.tstart + 1 ≠ s.params.rxWindow := by
      rw [← elapsed_unbounded hclk]
      exact fun hend => ne_true_of_eq_false hmid ((rxLast_iff s).2 hend)
    rw [heq]
    simp only [advance_rx, setHost_rx, setRx_rx, advance_now, setHost_now, setRx_now, advance_params, setHost_params,
      setRx_params, nextNow_unbounded hclk, htstart]
    obtain ⟨hle, hlt, hrest⟩ := hspacing
    exact ⟨hle, hlt, by omega, hrest⟩
  · rw [heq]
    exact nofun

/-! One tick -/

/-- R28, R125, R142: the part of the invariant that only speaks of a specified block, between the phases of a tick. -/
theorem commandPhase_inv {s s1 : State} (hw : s.params.wellFormed = true) (hbusy : BusyInv s) (htx : TxInv s)
    (hrx : RxInv s) (hu : s1.unspec = false) (hc : commandPhase s = .next s1) :
    BusyInv s1 ∧ TxInv s1 ∧ RxMidInv s1 := by
  obtain ⟨htm, hwin, -⟩ := (Params.wellFormed_iff s.params).1 hw
  obtain ⟨-, -, -, -, hp, -⟩ := (Timing.wellFormed_iff s.params.timing).1 htm
  rcases commandPhase_next_cases hc with ⟨-, rfl⟩ | ⟨w, i, -, -, -, rfl⟩ | ⟨w, e, -, -, ha, rfl⟩ | ⟨w, -, -, rfl⟩
  · exact ⟨hbusy, htx, rxMidInv_of_rxInv hrx⟩
  · rcases acceptedState_cases i s with ⟨-, -, m, heq⟩ | ⟨-, heq⟩ | ⟨-, heq⟩ | ⟨x, -, heq⟩ <;> rw [heq]
    · exact ⟨by simp [BusyInv], txInv_startTx m hp, nofun⟩
    · exact ⟨by simp [BusyInv], nofun, nofun⟩
    · exact ⟨by simp [BusyInv], nofun, rxMidInv_startRx hwin⟩
    · exact ⟨by simp [BusyInv], nofun, nofun⟩
  · obtain ⟨-, hidle⟩ := (accepting_iff s).1 ha
    refine ⟨by simpa [BusyInv] using hbusy, ?_, ?_⟩
    · simp [TxInv, hidle]
    · simp [RxMidInv, hidle]
  · cases hu

/-- R40: the engine phase turns it into the invariant of the next tick. -/
theorem engine_inv {s : State} (acts : List HostAct) (hfit : s.params.timing.bitPeriod ≤ 2 ^ 12) (hbusy : BusyInv s)
    (htx : TxInv s) (hrx : RxMidInv s) :
    BusyInv (advance (setHost acts (engine s))) ∧ TxInv (advance (setHost acts (engine s))) ∧
      RxInv (advance (setHost acts (engine s))) := by
  cases hop : s.curOp with
  | idle =>
    rw [engine_idle hop]
    exact ⟨hbusy, htx, fun h => absurd (hop.symm.trans h) (by decide)⟩
  | tx =>
    have hkeeps := txInv_txTick hfit hop htx
    rw [engine_tx hop]
    refine ⟨?_, hkeeps, fun h => ?_⟩
    · rcases txTick_cases s with ⟨-, heq⟩ | ⟨-, -, heq⟩ | ⟨-, -, heq⟩ <;> rw [heq]
      · exact hbusy
      · exact hbusy
      · exact iff_of_false nofun (not_not_intro rfl)
    · rcases txTick_cases s with ⟨-, heq⟩ | ⟨-, -, heq⟩ | ⟨-, -, heq⟩ <;> rw [heq] at h
      · exact absurd (hop.symm.trans h) (by decide)
      · exact absurd (hop.symm.trans h) (by decide)
      · cases h
  | rx =>
    have hkeeps := rxInv_advance_rxTick acts hop hrx
    rw [engine_rx hop]
    refine ⟨?_, fun h => ?_, hkeeps⟩
    · rcases rxTick_cases s with ⟨-, heq⟩ | ⟨-, heq⟩ <;> rw [heq]
      · exact hbusy
      · exact iff_of_false nofun (not_not_intro rfl)
    · rcases rxTick_cases s with ⟨-, heq⟩ | ⟨-, heq⟩ <;> rw [heq] at h
      · exact absurd (hop.symm.trans h) (by decide)
      · cases h

/-- R220: what a reset tick leaves meets the invariant, whatever ran before it. -/
theorem machineInv_resetTick {s : State} (hw : s.params.wellFormed = true) : MachineInv (resetTick s) :=
  ⟨hw, ⟨iff_of_true rfl rfl, by simp, nofun⟩, fun _ => ⟨iff_of_false nofun (not_not_intro rfl), nofun, nofun⟩⟩

/-- Settles O26: `State.reset` is idle and shows no fault, and its parameters are the source's. -/
theorem invariantHoldsAtReset : Obligations.InvariantHoldsAtReset :=
  ⟨rfl, ⟨iff_of_true rfl rfl, by decide, nofun⟩, fun _ => ⟨iff_of_false nofun (not_not_intro rfl), nofun, nofun⟩⟩

/-- Settles O27: the command phase and then the engine phase keep each part of the invariant. -/
theorem invariantKeptByEveryTick : Obligations.InvariantKeptByEveryTick := by
  intro s t hinv h
  obtain ⟨hw, hfault, hspec⟩ := hinv
  have hparams := parametersNeverChange s t h
  rcases step_cases h with ⟨-, rfl⟩ | ⟨hr, s1, hc, hfin⟩
  · exact machineInv_resetTick hw
  · refine ⟨hparams ▸ hw, hfin ▸ faultInv_finishTick (commandPhase_faultInv hfault hc), fun hut => ?_⟩
    obtain ⟨s1, hc, hu, hu1, rfl⟩ := step_specified hr hut h
    obtain ⟨hbusy, htx, hrx⟩ := hspec hu
    obtain ⟨hbusy1, htx1, hrx1⟩ := commandPhase_inv hw hbusy htx hrx hu1 hc
    obtain ⟨htm, -, -⟩ := (Params.wellFormed_iff s.params).1 hw
    obtain ⟨-, -, -, -, -, hfit⟩ := (Timing.wellFormed_iff s.params.timing).1 htm
    exact engine_inv (hostRest s) (by rw [commandPhase_params hc]; exact hfit) hbusy1 htx1 hrx1

/-! What follows from it -/

/-- R149: classifications at least `RX_T0_MIN` ticks apart, in `e` ticks. -/
theorem le_div_of_mul_succ_le {c t e w : Nat} (ht : 0 < t) (h : c * (t + 1) ≤ e) (hw : e < w) : c ≤ w / t := by
  rw [Nat.le_div_iff_mul_le ht]
  have hle : c * t ≤ c * (t + 1) := Nat.mul_le_mul_left c (Nat.le_succ t)
  omega

/-- R144: a sample counts at most one bit, and only at least `RX_T0_MIN` ticks after the baseline. -/
theorem rxSample_cnt_cases (p : Params) (lv : Level) (now : Nat) (r : RxRegs) :
    (rxSample p lv now r).cnt = r.cnt ∨
      ((rxSample p lv now r).cnt = r.cnt + 1 ∧ r.po = false ∧ p.timing.rxT0Min ≤ elapsed p now r.tlast) := by
  rcases rxSample_cases p lv now r with ⟨-, hpo, b, hb, heq⟩ | ⟨-, -, -, heq⟩ | ⟨-, -, heq⟩ | ⟨-, -, heq⟩ | ⟨-, -, heq⟩ <;>
    rw [heq]
  · exact .inr ⟨rfl, hpo, le_of_rxClassify hb⟩
  · split
    · exact .inl rfl
    · exact .inl rfl
  · exact .inl rfl
  · exact .inl rfl
  · exact .inl rfl

/-- Settles O43: the invariant spaces the classifications, so a window has room for so many. -/
theorem receiveCounterIsBounded : Obligations.ReceiveCounterIsBounded := by
  intro s ⟨hw, _, hspec⟩ hu hrx hclk
  obtain ⟨-, -, hinv⟩ := hspec hu
  obtain ⟨hstart, hlast, hwin, hlow, hhigh⟩ := hinv hrx hclk
  obtain ⟨htm, -, -⟩ := (Params.wellFormed_iff s.params).1 hw
  obtain ⟨-, -, hmin, -, -, -⟩ := (Timing.wellFormed_iff s.params.timing).1 htm
  have hfits : s.rx.tlast - s.rx.tstart < s.params.rxWindow := by omega
  have hcnt := rxSample_cnt_cases s.params (sample s) s.now s.rx
  rw [elapsed_unbounded hclk] at hcnt
  cases hpo : s.rx.po with
  | false =>
    have hspace := hlow hpo
    have hbound := le_div_of_mul_succ_le hmin hspace hfits
    refine ⟨by omega, by omega, fun htiming hdef => ?_⟩
    rw [htiming, show Config.timing.rxT0Min = 600 from rfl] at hspace hcnt
    omega
  | true =>
    obtain ⟨hone, hspace, hlate⟩ := hhigh hpo
    have hbound := le_div_of_mul_succ_le hmin hspace hfits
    rw [hpo] at hcnt
    replace hcnt := hcnt.resolve_right fun ⟨_, hne, _⟩ => absurd hne (by decide)
    refine ⟨by omega, by omega, fun htiming hdef => ?_⟩
    rw [htiming, show Config.timing.rxT0Min = 600 from rfl] at hspace hlate
    omega

/-- Settles O58: the parameters of `State.reset` are the source's, and the check of a choice of them is its constraints. -/
theorem parametersAtResetAreTheSourceValues : Obligations.ParametersAtResetAreTheSourceValues := by
  refine ⟨rfl, rfl, rfl, rfl, rfl, rfl, rfl, rfl, rfl, rfl, rfl, rfl, rfl, rfl, fun p => ?_⟩
  have hclock : clockCovers p.clkBits p.rxWindow = true ↔ ∀ n, p.clkBits = some n → p.rxWindow ≤ 2 ^ n := by
    cases p.clkBits <;> simp
  rw [Params.wellFormed_iff, Timing.wellFormed_iff, hclock]
  simp only [and_assoc, Nat.reducePow]

end Sys2Proof.Machine
end

section
/-! PROOFS. A digit in a field of its own (R170, R178). -/

namespace Sys2Proof.Machine

/-- R170: a value of at most 15 reaches no other nibble. -/
theorem nib_ins_of_ne {t : Message} {v : Nat} {off : Fin 16} {i : Nat} (hv : v < 2 ^ 4) (hi : i ≠ off.val) :
    nib (ins t v off) i = nib t i := by
  rcases Nat.lt_or_ge i 16 with hlt | hge
  · apply BitVec.eq_of_getLsbD_eq
    intro j hj
    have houtside : (decide (4 * off.val ≤ 4 * i + j) && v.testBit (4 * i + j - 4 * off.val)) = false := by
      rcases Nat.lt_or_gt_of_ne hi with hbelow | habove
      · rw [decide_eq_false (by omega), Bool.false_and]
      · have hbound : v < 2 ^ (4 * i + j - 4 * off.val) :=
          Nat.lt_of_lt_of_le hv (Nat.pow_le_pow_right (by decide) (by omega))
        rw [Nat.testBit_lt_two_pow hbound, Bool.and_false]
    rw [getLsbD_nib, getLsbD_nib, getLsbD_ins t v off (by omega), houtside, Bool.or_false]
  · rw [nib_of_le hge, nib_of_le hge]

/-- Settles O54: the nibble at the offset, and every other one. -/
theorem digitArrivesAsItsOwnNibble : Obligations.DigitArrivesAsItsOwnNibble :=
  fun _ _ _ h0 hv => ⟨nib_ins_toNat h0 (Nat.lt_succ_of_le hv), fun _ hi => nib_ins_of_ne (Nat.lt_succ_of_le hv) hi⟩

end Sys2Proof.Machine
end

section
/-! PROOFS. Runs: where one ends, what it shows and when it is a good one (R205, R234). -/

namespace Sys2Proof.Machine

/-- R234: the run from `s` ends after `k` ticks, in the state `t`. -/
def EndsAfter (k : Nat) (s t : State) : Prop :=
  Sys2Proof.core.run k s = .next t ∧ runEnded t = true ∧
    ∀ (j : Nat) (u : State), j < k → Sys2Proof.core.run j s = .next u → runEnded u = false

theorem endsAfter_zero {s : State} (h : runEnded s = true) : EndsAfter 0 s s :=
  ⟨rfl, h, fun j _ hj => absurd hj (Nat.not_lt_zero j)⟩

/-- A run that has not ended ends one tick later than the one from the next state. -/
theorem endsAfter_succ {k : Nat} {s s' t : State} (hs : step s = .next s') (hgoes : runEnded s = false)
    (h : EndsAfter k s' t) : EndsAfter (k + 1) s t := by
  obtain ⟨hrun, hended, hfirst⟩ := h
  refine ⟨(run_succ hs k).trans hrun, hended, fun j u hj hu => ?_⟩
  cases j with
  | zero => exact Host.Outcome.next.inj hu ▸ hgoes
  | succ j => exact hfirst j u (Nat.lt_of_succ_lt_succ hj) ((run_succ hs j).symm.trans hu)

/-- The other way round: what a run of at least one tick does. -/
theorem endsAfter_succ_cases {k : Nat} {s t : State} (h : EndsAfter (k + 1) s t) :
    runEnded s = false ∧ ∃ s', step s = .next s' ∧ EndsAfter k s' t := by
  obtain ⟨hrun, hended, hfirst⟩ := h
  obtain ⟨s', hs⟩ := everyTickHasANextState s
  refine ⟨hfirst 0 s (Nat.succ_pos k) rfl, s', hs, (run_succ hs k).symm.trans hrun, hended, fun j u hj hu => ?_⟩
  exact hfirst (j + 1) u (Nat.succ_lt_succ hj) ((run_succ hs j).trans hu)

/-- A run that has ended by tick `k` ended at some first tick up to it. -/
theorem endsAfter_of_ended {k : Nat} {s t : State} (hrun : Sys2Proof.core.run k s = .next t)
    (hended : runEnded t = true) : ∃ j u, j ≤ k ∧ EndsAfter j s u := by
  induction k generalizing s with
  | zero =>
    obtain rfl := Host.Outcome.next.inj hrun
    exact ⟨0, s, Nat.le_refl 0, endsAfter_zero hended⟩
  | succ k ih =>
    cases hs : runEnded s with
    | true => exact ⟨0, s, Nat.zero_le _, endsAfter_zero hs⟩
    | false =>
      obtain ⟨s', hstep⟩ := everyTickHasANextState s
      obtain ⟨j, u, hj, hends⟩ := ih ((run_succ hstep k).symm.trans hrun)
      exact ⟨j + 1, u, Nat.succ_le_succ hj, endsAfter_succ hstep hs hends⟩

theorem lineTrace_succ {s s' : State} (h : step s = .next s') (n : Nat) :
    lineTrace (n + 1) s = s'.outLine :: lineTrace n s' := by
  simp [lineTrace, h]

/-- R234: the states of a run that ends after `k` ticks, their line and the last of them. -/
theorem runStates_of_endsAfter {k n : Nat} {s t : State} (h : EndsAfter k s t) (hle : k ≤ n) :
    ∃ rest, runStates n s = some (s :: rest) ∧ rest.map State.outLine = lineTrace k s ∧
      (s :: rest).getLast? = some t ∧ ∀ u, u ∈ s :: rest ↔ ∃ j ≤ k, Sys2Proof.core.run j s = .next u := by
  induction k generalizing n s with
  | zero =>
    obtain ⟨hrun, hended, -⟩ := h
    obtain rfl := Host.Outcome.next.inj hrun
    refine ⟨[], runStates_of_ended hended n, rfl, rfl, fun u => ?_⟩
    rw [List.mem_singleton]
    constructor
    · rintro rfl
      exact ⟨0, Nat.le_refl 0, rfl⟩
    · rintro ⟨j, hj, hu⟩
      obtain rfl := Nat.le_zero.1 hj
      exact (Host.Outcome.next.inj hu).symm
  | succ k ih =>
    obtain ⟨hgoes, s', hs, hrest⟩ := endsAfter_succ_cases h
    obtain ⟨n, rfl⟩ := Nat.exists_eq_succ_of_ne_zero (Nat.ne_zero_of_lt hle)
    obtain ⟨rest, hstates, htrace, hlast, hmem⟩ := ih hrest (Nat.le_of_succ_le_succ hle)
    refine ⟨s' :: rest, ?_, ?_, ?_, fun u => ?_⟩
    · rw [runStates_succ hgoes hs, hstates, Option.map_some]
    · rw [List.map_cons, htrace, lineTrace_succ hs]
    · rw [List.getLast?_cons_cons, hlast]
    · rw [List.mem_cons, hmem]
      constructor
      · rintro (rfl | ⟨j, hj, hu⟩)
        · exact ⟨0, Nat.zero_le _, rfl⟩
        · exact ⟨j + 1, Nat.succ_le_succ hj, (run_succ hs j).trans hu⟩
      · rintro ⟨j, hj, hu⟩
        cases j with
        | zero => exact .inl (Host.Outcome.next.inj hu).symm
        | succ j => exact .inr ⟨j, Nat.le_of_succ_le_succ hj, (run_succ hs j).symm.trans hu⟩

/-- R234: a run that has states has an end. -/
theorem endsAfter_of_runStates {n : Nat} {s : State} {states : List State} (h : runStates n s = some states) :
    ∃ k t, k ≤ n ∧ EndsAfter k s t := by
  induction n generalizing s states with
  | zero =>
    cases hs : runEnded s with
    | true => exact ⟨0, s, Nat.le_refl 0, endsAfter_zero hs⟩
    | false =>
      rw [runStates_zero hs] at h
      cases h
  | succ n ih =>
    cases hs : runEnded s with
    | true => exact ⟨0, s, Nat.zero_le _, endsAfter_zero hs⟩
    | false =>
      obtain ⟨s', hstep⟩ := everyTickHasANextState s
      rw [runStates_succ hs hstep, Option.map_eq_some_iff] at h
      obtain ⟨rest, hrest, -⟩ := h
      obtain ⟨k, t, hk, hends⟩ := ih hrest
      exact ⟨k + 1, t, Nat.succ_le_succ hk, endsAfter_succ hstep hs hends⟩

/-- R234: what a run that ends after `k` ticks shows. -/
theorem observe_of_endsAfter {k n : Nat} {s t : State} (h : EndsAfter k s t) (hle : k ≤ n) :
    observe n s = some { trace := lineTrace k s, final := hostView t } := by
  obtain ⟨rest, hstates, htrace, hlast, -⟩ := runStates_of_endsAfter h hle
  simp [observe, hstates, hlast, htrace]

/-- Settles O55: an observation is that of the first end, and there is a first end where there is one. -/
theorem runEndsAtItsFirstIdleTick : Obligations.RunEndsAtItsFirstIdleTick := by
  refine ⟨fun n s o ho => ?_, fun n k s t hk hrun hquiet hbusy => ?_⟩
  · obtain ⟨states, hstates, -⟩ := Option.bind_eq_some_iff.1 ho
    obtain ⟨k, t, hk, hends⟩ := endsAfter_of_runStates hstates
    obtain rfl := Option.some.inj ((observe_of_endsAfter hends hk).symm.trans ho)
    obtain ⟨hrun, hended, hfirst⟩ := hends
    obtain ⟨hquiet, hbusy⟩ := (runEnded_iff t).1 hended
    refine ⟨k, t, hk, hrun, hquiet, hbusy, fun j u hj hu => ?_, rfl, rfl⟩
    exact (Bool.and_eq_false_iff.1 (hfirst j u hj hu)).imp_right (Bool.not_eq_false' u.busy).mp
  · obtain ⟨j, u, hj, hends⟩ := endsAfter_of_ended hrun ((runEnded_iff t).2 ⟨hquiet, hbusy⟩)
    exact ⟨_, observe_of_endsAfter hends (Nat.le_trans hj hk)⟩

/-- Settles O56: the states of the run are those of its ticks, up to the first end. -/
theorem goodRunNeverShowsAFault : Obligations.GoodRunNeverShowsAFault := by
  intro n s
  rw [goodRun_iff]
  constructor
  · rintro ⟨states, hstates, hgood⟩
    obtain ⟨k, t, hk, hends⟩ := endsAfter_of_runStates hstates
    obtain ⟨rest, hstates', -, -, hmem⟩ := runStates_of_endsAfter hends hk
    obtain rfl := Option.some.inj (hstates'.symm.trans hstates)
    obtain ⟨hrun, hended, hfirst⟩ := hends
    exact ⟨k, hk, ⟨t, hrun, hended⟩, hfirst, fun j u hj hu => hgood u ((hmem u).2 ⟨j, hj, hu⟩)⟩
  · rintro ⟨k, hk, ⟨t, hrun, hended⟩, hfirst, hgood⟩
    obtain ⟨rest, hstates, -, -, hmem⟩ := runStates_of_endsAfter ⟨hrun, hended, hfirst⟩ hk
    refine ⟨s :: rest, hstates, fun u hu => ?_⟩
    obtain ⟨j, hj, hju⟩ := (hmem u).1 hu
    exact hgood j u hj hju

end Sys2Proof.Machine
end

section
/-! PROOFS. A whole SEND: its nibbles on the line, the state it ends in, the run of a program that waits for it, and the line
that another block sees (R104, R126 to R128, R226, R234). -/

namespace Sys2Proof.Machine

/-! The nibbles of the frame on the line -/

/-- R122: bit `b` of a frame stands in nibble `b / 4`. -/
theorem frameBits_getD {m : Message} {b : Nat} (hb : b < (frameBits m).length) :
    (frameBits m).getD b false = ((frameNibbles m).getD (b / 4) 0#4).getLsbD (3 - b % 4) := by
  have hq : b / 4 < (frameNibbles m).length := by rw [frameBits_length] at hb; omega
  have hbit := flatMap_nibbleBits_getElem? (frameNibbles m) (b / 4) (Nat.mod_lt b (by decide))
  rw [Nat.div_add_mod, List.getElem?_eq_getElem hq, Option.map_some] at hbit
  rw [List.getD_eq_getElem?_getD, List.getD_eq_getElem?_getD, List.getElem?_eq_getElem hq, frameBits, hbit,
    Option.getD_some, Option.getD_some]

/-- Settles O37: tick `n` is in bit `n / BIT_PERIOD`, which is bit `n / BIT_PERIOD % 4` of its nibble. -/
theorem frameIsItsNibblesBackToBack : Obligations.FrameIsItsNibblesBackToBack := by
  intro tm m n _ hn
  have hb : n / tm.bitPeriod < (frameBits m).length := Nat.div_lt_of_lt_mul hn
  rw [writeNibble, Nat.mul_comm 4, ← Nat.div_div_eq_div_mul, Nat.mod_mul_right_div_self, Nat.mod_mul_right_mod,
    frameBits_getD hb]

/-! The state in which a SEND ends -/

/-- The last tick of `l` bit periods is the last one of the last of them. -/
theorem last_tick_of_periods {p l n : Nat} (hp : 1 ≤ p) (hn : n + 1 = p * l) : n % p = p - 1 ∧ n / p = l - 1 := by
  have hend : n % p = p - 1 := by
    by_contra hmid
    have hmod := (succ_within_period hp hmid).2
    rw [hn, Nat.mul_mod_right] at hmod
    exact absurd hmod.symm (Nat.succ_ne_zero _)
  have hl : n / p + 1 = l := Nat.eq_of_mul_eq_mul_left hp ((succ_at_period_end hp hend).symm.trans hn)
  exact ⟨hend, Nat.eq_sub_of_add_eq hl⟩

/-- R127: where every pulse has a low phase, the last tick of a frame is low. -/
theorem frameLevel_last_low {tm : Timing} {m : Message} {n : Nat} (hw : tm.wellFormed = true) (h0 : 0 < tm.t0Low)
    (h1 : 0 < tm.t1Low) (hn : n + 1 = tm.bitPeriod * (frameBits m).length) : frameLevel tm m n = .low := by
  obtain ⟨hzero, hone, -, -, hp, -⟩ := (Timing.wellFormed_iff tm).1 hw
  obtain ⟨hoffset, -⟩ := last_tick_of_periods hp hn
  rw [frameLevel, sendBit_eq, if_neg]
  cases (frameBits m).getD (n / tm.bitPeriod) false with
  | false => rw [highTime_false]; omega
  | true => rw [highTime_true]; omega

/-- Settles O40: the last tick of the frame is low and completes the operation. -/
theorem sendEndsAfterItsDuration : Obligations.SendEndsAfterItsDuration := by
  intro s m d ha hh hw h0 h1 hd
  obtain ⟨htm, -, -⟩ := (Params.wellFormed_iff s.params).1 hw
  obtain ⟨-, -, -, -, hp, -⟩ := (Timing.wellFormed_iff s.params.timing).1 htm
  have hlen : 0 < (frameBits m).length := Nat.lt_of_lt_of_le (by decide) (frameBits_length_bounds m).1
  obtain ⟨n, rfl⟩ := Nat.exists_eq_add_one.2 (hd ▸ Nat.mul_pos hp hlen)
  obtain ⟨-, hk⟩ := last_tick_of_periods hp hd
  rw [run_send ha hh hw (by omega), afterSendTick, if_neg (by omega), frameLevel_last_low htm h0 h1 hd, ← hk]
  rfl

/-! A program that sends and waits -/

/-- R87: a host that waits drives nothing, so the tick is that of a host with nothing left to do. -/
theorem step_setHost_of_waiting {s t : State} {acts : List HostAct} (hh : s.host = []) (hu : s.unspec = false)
    (hwaits : hostTick s.busy acts = (HostPins.silent, acts)) (h : step s = .next t) :
    step (setHost acts s) = .next (setHost acts t) := by
  obtain ⟨hr, ho, hrest⟩ := host_of_waiting (s := setHost acts s) hwaits
  obtain rfl := Host.Outcome.next.inj ((step_of_silent_host hh hu).symm.trans h)
  rw [step_of_commandPhase hr (commandPhase_of_not_offered ho), finishTick_specified (s := setHost acts s)
    (s1 := setHost acts s) hu hu, hrest, engine_setHost]
  rfl

/-- R87: the ticks of a SEND whose host waits for its end. -/
theorem run_sendw {s : State} {m : Message} {n : Nat} (ha : accepting s = true)
    (hh : s.host = [offerOf (.send m), .waitIdle]) (hw : s.params.wellFormed = true)
    (hn : n < s.params.timing.bitPeriod * (frameBits m).length) :
    Sys2Proof.core.run (n + 1) s = .next (setHost [.waitIdle] (afterSendTick m s n)) := by
  have hu : s.unspec = false := ((accepting_iff s).1 ha).1
  induction n with
  | zero =>
    have hsend : Sys2Proof.core.run 1 (setHost [offerOf (.send m)] s) = .next (afterSendTick m s 0) :=
      run_send (s := setHost [offerOf (.send m)] s) ha rfl hw hn
    obtain ⟨t, hstep⟩ := everyTickHasANextState (setHost [offerOf (.send m)] s)
    obtain rfl := Host.Outcome.next.inj ((run_succ hstep 0).symm.trans hsend)
    have hsplit := hstep.symm.trans (step_of_offerOf (.send m) [] s)
    have hs : s = setHost [offerOf (.send m), .waitIdle] s := by rw [← hh]; rfl
    have hstep' := step_of_offerOf (.send m) [.waitIdle] s
    rw [← hs] at hstep'
    rw [run_succ hstep', Host.Outcome.next.inj hsplit]
    rfl
  | succ n ih =>
    have hbusy : afterSendTick m s n = sendingState m s (frameLevel s.params.timing m n) (n + 1) := if_pos hn
    have hrun := ih (Nat.lt_of_succ_lt hn)
    rw [hbusy] at hrun
    have hstep := step_setHost_of_waiting (s := sendingState m s (frameLevel s.params.timing m n) (n + 1))
      (acts := [.waitIdle]) rfl hu rfl (step_sendingState hw hu hn)
    exact (run_add hrun 1).trans (run_succ hstep 0)

/-- R234: the trace, tick by tick. -/
theorem lineTrace_eq_map_range {f : Nat → Level} {n : Nat} {s : State}
    (h : ∀ i, i < n → ∃ t, Sys2Proof.core.run (i + 1) s = .next t ∧ t.outLine = f i) :
    lineTrace n s = (List.range n).map f := by
  induction n generalizing f s with
  | zero => rfl
  | succ n ih =>
    obtain ⟨s', hs⟩ := everyTickHasANextState s
    obtain ⟨t, ht, hlevel⟩ := h 0 (Nat.succ_pos n)
    obtain rfl := Host.Outcome.next.inj ((run_succ hs 0).symm.trans ht)
    rw [lineTrace_succ hs, hlevel, List.range_succ_eq_map, List.map_cons, List.map_map]
    congr 1
    exact ih fun i hi => by
      obtain ⟨t, ht, hlevel⟩ := h (i + 1) (Nat.succ_lt_succ hi)
      exact ⟨t, (run_succ hs (i + 1)).symm.trans ht, hlevel⟩

/-- Settles O57: the program runs through the ticks of the frame and ends where the block becomes idle. -/
theorem sendProgramShowsItsFrame : Obligations.SendProgramShowsItsFrame := by
  intro s m d ha hh hw hd
  obtain ⟨htm, -, -⟩ := (Params.wellFormed_iff s.params).1 hw
  obtain ⟨-, -, -, -, hp, -⟩ := (Timing.wellFormed_iff s.params.timing).1 htm
  have hlen : 0 < (frameBits m).length := Nat.lt_of_lt_of_le (by decide) (frameBits_length_bounds m).1
  obtain ⟨n, rfl⟩ := Nat.exists_eq_add_one.2 (hd ▸ Nat.mul_pos hp hlen)
  have hends : EndsAfter (n + 1) s (setHost [.waitIdle] (afterSendTick m s n)) := by
    refine ⟨run_sendw ha hh hw (by omega), (runEnded_iff _).2 ⟨rfl, ?_⟩, fun j u hj hu => ?_⟩
    · exact eq_false_of_ne_true (mt (afterSendTick_busy_iff m s n).1 (by omega))
    · cases j with
      | zero =>
        obtain rfl := Host.Outcome.next.inj hu
        simp [runEnded, hh, offerOf, HostAct.quiet]
      | succ j =>
        obtain rfl := Host.Outcome.next.inj ((run_sendw ha hh hw (by omega)).symm.trans hu)
        have hbusy := (afterSendTick_busy_iff m s j).2 (by omega)
        simp [runEnded, hbusy]
  rw [observe_of_endsAfter hends (Nat.le_refl _), lineTrace_eq_map_range fun i hi =>
    ⟨_, run_sendw ha hh hw (by omega), afterSendTick_outLine m s i⟩]
  rw [afterSendTick, if_neg (by omega)]
  rfl

/-! What the line shows to another block -/

/-- The level of the line in tick `n` after a block took SEND `m`: the frame, and then idle (R103, R127). -/
def sentLevel (tm : Timing) (m : Message) (n : Nat) : Level :=
  if n < tm.bitPeriod * (frameBits m).length then frameLevel tm m n else .low

/-- R103, R127: a block with the timing `tm` at tick `n` after it took SEND `m`, its host's script over. -/
structure OnAir (tm : Timing) (m : Message) (n : Nat) (s : State) : Prop where
  timing : s.params.timing = tm
  host : s.host = []
  specified : s.unspec = false
  sending : n < tm.bitPeriod * (frameBits m).length → s.curOp = .tx ∧ s.tx = frameRegs m tm.bitPeriod n
  finished : tm.bitPeriod * (frameBits m).length ≤ n → s.curOp = .idle ∧ s.outLine = .low

/-- R103, R127: one tick on the line. -/
theorem onAir_step {tm : Timing} {m : Message} {n : Nat} {s : State} (hw : tm.wellFormed = true) (h0 : 0 < tm.t0Low)
    (h1 : 0 < tm.t1Low) (h : OnAir tm m n s) :
    ∃ t, step s = .next t ∧ t.outLine = sentLevel tm m n ∧ OnAir tm m (n + 1) t := by
  obtain ⟨rfl, hhost, hu, hsending, hfinished⟩ := h
  obtain ⟨-, -, -, -, hp, hfit⟩ := (Timing.wellFormed_iff s.params.timing).1 hw
  have hstep := step_of_silent_host hhost hu
  rcases Nat.lt_or_ge n (s.params.timing.bitPeriod * (frameBits m).length) with hn | hn
  · obtain ⟨htx, hregs⟩ := hsending hn
    rw [engine_tx htx, txTick_of_frameRegs hp hfit hregs hn] at hstep
    rw [sentLevel, if_pos hn]
    split at hstep
    next hmore =>
      exact ⟨_, hstep, rfl, rfl, hhost, hu, fun _ => ⟨htx, rfl⟩, fun hle => absurd hmore (Nat.not_lt_of_le hle)⟩
    next hlast =>
      refine ⟨_, hstep, rfl, rfl, hhost, hu, fun hlt => absurd hlt hlast, fun _ => ⟨rfl, ?_⟩⟩
      exact frameLevel_last_low hw h0 h1 (by omega)
  · obtain ⟨hidle, hlow⟩ := hfinished hn
    rw [engine_idle hidle] at hstep
    rw [sentLevel, if_neg (Nat.not_lt_of_le hn)]
    exact ⟨_, hstep, hlow, rfl, hhost, hu, fun hlt => absurd hn (by omega), fun _ => ⟨hidle, hlow⟩⟩

theorem lineTrace_of_onAir {tm : Timing} {m : Message} (hw : tm.wellFormed = true) (h0 : 0 < tm.t0Low)
    (h1 : 0 < tm.t1Low) {n : Nat} {s : State} (h : OnAir tm m n s) (k : Nat) :
    lineTrace k s = (List.range k).map fun i => sentLevel tm m (n + i) := by
  induction k generalizing n s with
  | zero => rfl
  | succ k ih =>
    obtain ⟨t, hstep, hlevel, hnext⟩ := onAir_step hw h0 h1 h
    rw [lineTrace_succ hstep, hlevel, ih hnext, List.range_succ_eq_map, List.map_cons, List.map_map]
    simp [Function.comp_def, Nat.add_right_comm, Nat.add_assoc]

/-- R103, R127: the line from the acceptance of a SEND on, under the timing `tm` and any other parameters. -/
theorem lineTrace_send {s : State} {m : Message} (ha : accepting s = true) (hh : s.host = [offerOf (.send m)])
    (hw : s.params.timing.wellFormed = true) (h0 : 0 < s.params.timing.t0Low) (h1 : 0 < s.params.timing.t1Low) (k : Nat) :
    lineTrace k s = (List.range k).map (sentLevel s.params.timing m) := by
  have hu : s.unspec = false := ((accepting_iff s).1 ha).1
  obtain ⟨-, -, -, -, hp, -⟩ := (Timing.wellFormed_iff s.params.timing).1 hw
  have hlen : 0 < (frameBits m).length := Nat.lt_of_lt_of_le (by decide) (frameBits_length_bounds m).1
  have hair : OnAir s.params.timing m 0 (sendingState m s s.outLine 0) :=
    ⟨rfl, rfl, hu, fun _ => ⟨rfl, rfl⟩, fun hle => absurd (Nat.mul_pos hp hlen) (Nat.not_lt_of_le hle)⟩
  have htrace := lineTrace_of_onAir hw h0 h1 hair k
  simp only [Nat.zero_add] at htrace
  rw [← htrace]
  cases k with
  | zero => rfl
  | succ k =>
    obtain ⟨t, hstep⟩ := everyTickHasANextState (sendingState m s s.outLine 0)
    rw [lineTrace_succ hstep, lineTrace_succ ((step_of_send ha hh).trans hstep)]

end Sys2Proof.Machine
end

section
/-! PROOFS. A whole RECEIVE: what the receiver holds at each tick of its window, whatever its clock, and what it ends with
(R22, R26, R27, R31, R143, R226). -/

namespace Sys2Proof.Machine

/-! The receive registers of a window, with time counted from its start -/

/-- A receiver's parameters, as far as a sample looks at them, with an unbounded clock. -/
def windowParams (tm : Timing) (mode : DeadzoneMode) : Params := { Config.params with timing := tm, deadzone := mode }

/-- R142 to R146: the receive registers after `n` ticks of a window that shows the levels `lv`. -/
def windowRegs (tm : Timing) (mode : DeadzoneMode) (lv : Nat → Level) : Nat → RxRegs
  | 0 => RxRegs.reset
  | n + 1 => rxSample (windowParams tm mode) (lv n) n (windowRegs tm mode lv n)

section Window

variable {tm : Timing} {mode : DeadzoneMode} {lv : Nat → Level}

@[simp] theorem windowRegs_succ (n : Nat) :
    windowRegs tm mode lv (n + 1) = rxSample (windowParams tm mode) (lv n) n (windowRegs tm mode lv n) := rfl

/-- R22: the registers depend on the levels of the window's ticks. -/
theorem windowRegs_congr {lv' : Nat → Level} {n : Nat} (h : ∀ i, i < n → lv i = lv' i) :
    windowRegs tm mode lv n = windowRegs tm mode lv' n := by
  induction n with
  | zero => rfl
  | succ n ih =>
    rw [windowRegs_succ, windowRegs_succ, ih fun i hi => h i (Nat.lt_succ_of_lt hi), h n (Nat.lt_succ_self n)]

/-- R145: a sample keeps the start of the window, and the baseline is not after it. -/
theorem rxSample_timestamps (p : Params) (l : Level) (now : Nat) (r : RxRegs) :
    (rxSample p l now r).tstart = r.tstart ∧ ((rxSample p l now r).tlast = r.tlast ∨ (rxSample p l now r).tlast = now) := by
  rcases rxSample_cases p l now r with ⟨-, -, b, -, heq⟩ | ⟨-, -, -, heq⟩ | ⟨-, -, heq⟩ | ⟨-, -, heq⟩ | ⟨-, -, heq⟩ <;>
    rw [heq]
  · exact ⟨rfl, .inl rfl⟩
  · split <;> exact ⟨rfl, .inl rfl⟩
  · exact ⟨rfl, .inl rfl⟩
  · exact ⟨rfl, .inr rfl⟩
  · exact ⟨rfl, .inl rfl⟩

theorem windowRegs_timestamps (n : Nat) :
    (windowRegs tm mode lv n).tstart = 0 ∧ (windowRegs tm mode lv n).tlast ≤ n := by
  induction n with
  | zero => exact ⟨rfl, Nat.le_refl 0⟩
  | succ n ih =>
    obtain ⟨hstart, hlast⟩ := ih
    obtain ⟨hstart', hlast'⟩ := rxSample_timestamps (windowParams tm mode) (lv n) n (windowRegs tm mode lv n)
    rw [windowRegs_succ]
    exact ⟨hstart'.trans hstart, by omega⟩

end Window

/-! The same registers under the block's own clock -/

/-- R31: the value of a clock of `n` bits after `i` ticks. -/
theorem iterate_nextNow_mod {p : Params} {n : Nat} (h : p.clkBits = some n) (now i : Nat) :
    (nextNow p)^[i] now % 2 ^ n = (now + i) % 2 ^ n := by
  induction i with
  | zero => rfl
  | succ i ih =>
    rw [Function.iterate_succ_apply', nextNow_finite h, Nat.mod_mod, Nat.add_mod, ih, ← Nat.add_mod, Nat.add_assoc]

theorem iterate_nextNow_unbounded {p : Params} (h : p.clkBits = none) (now i : Nat) :
    (nextNow p)^[i] now = now + i := by
  induction i with
  | zero => rfl
  | succ i ih => rw [Function.iterate_succ_apply', nextNow_unbounded h, ih, Nat.add_assoc]

/-- R31: under a finite clock an elapsed time reads its two times mod `2^CLK_BITS`. -/
theorem elapsed_mod {p : Params} {n : Nat} (h : p.clkBits = some n) (now t : Nat) :
    elapsed p (now % 2 ^ n) (t % 2 ^ n) = elapsed p now t := by
  have hint : (elapsed p (now % 2 ^ n) (t % 2 ^ n) : Int) = elapsed p now t := by
    rw [elapsed_eq_int_emod h, elapsed_eq_int_emod h]
    push_cast
    rw [← Int.sub_emod]
  exact_mod_cast hint

/-- R31: a clock that covers a time of `w` ticks measures every wait inside it. -/
theorem elapsed_iterate {p : Params} {w : Nat} (hc : clockCovers p.clkBits w = true) (now : Nat) {i j : Nat}
    (hji : j ≤ i) (hiw : i < w) : elapsed p ((nextNow p)^[i] now) ((nextNow p)^[j] now) = i - j := by
  cases hclk : p.clkBits with
  | none =>
    rw [elapsed_unbounded hclk, iterate_nextNow_unbounded hclk, iterate_nextNow_unbounded hclk]
    omega
  | some n =>
    rw [hclk, clockCovers_some, decide_eq_true_iff] at hc
    have hsplit : now + i = now + j + (i - j) := by omega
    rw [← elapsed_mod hclk, iterate_nextNow_mod hclk, iterate_nextNow_mod hclk, hsplit]
    exact elapsed_wrapped hclk (now + j) (by omega)

/-- The receive registers with their timestamps read off a clock that shows `clock n` in tick `n` of the window. -/
def stampRegs (clock : Nat → Nat) (r : RxRegs) : RxRegs :=
  { r with tstart := clock r.tstart, tlast := clock r.tlast }

/-- R143 to R146: a sample sees the clock only in the time since the baseline. -/
theorem rxSample_stampRegs {p : Params} {clock : Nat → Nat} (lv : Level) {n : Nat} {r : RxRegs}
    (hclock : elapsed p (clock n) (clock r.tlast) = n - r.tlast) :
    rxSample p lv (clock n) (stampRegs clock r) =
      stampRegs clock (rxSample (windowParams p.timing p.deadzone) lv n r) := by
  have helapsed : elapsed p (clock n) (stampRegs clock r).tlast =
      elapsed (windowParams p.timing p.deadzone) n r.tlast := hclock.trans (elapsed_unbounded rfl n r.tlast).symm
  rcases rxSample_cases (windowParams p.timing p.deadzone) lv n r with ⟨rfl, hpo, b, hb, heq⟩ | ⟨rfl, hpo, hnone, heq⟩ |
    ⟨rfl, hpo, heq⟩ | ⟨rfl, hpo, heq⟩ | ⟨rfl, hpo, heq⟩ <;> rw [heq]
  · rw [← helapsed] at hb
    exact rxSample_high_of_some (r := stampRegs clock r) hpo hb
  · rw [← helapsed] at hnone
    refine (rxSample_high_of_none (r := stampRegs clock r) hpo hnone).trans ?_
    show (if p.deadzone = .edge then _ else _) = stampRegs clock (if p.deadzone = .edge then _ else _)
    split <;> rfl
  · exact rxSample_high_of_po hpo
  · exact rxSample_low_of_po hpo
  · exact rxSample_low_of_not_po hpo

/-! A window, from its acceptance on -/

/-- R22: the level of `in_line`, `n` ticks after the state `s`. -/
def levelAt (s : State) (n : Nat) : Level := s.line[n]?.getD (Config.envLine (s.draws + n))

/-- What the receive registers of the block hold after `n` ticks of a window that starts in the state `s`, with time counted
from there. -/
def windowRegsOf (s : State) (n : Nat) : RxRegs := windowRegs s.params.timing s.params.deadzone (levelAt s) n

/-- A block that took RECEIVE in the state `s`, at tick `n` of its window. -/
def receivingState (s : State) (n : Nat) : State :=
  { s with
    host := [], line := s.line.drop n, draws := s.draws + n, now := (nextNow s.params)^[n] s.now
    busy := true, curOp := .rx, rx := stampRegs (fun i => (nextNow s.params)^[i] s.now) (windowRegsOf s n) }

/-- That block after the last tick of its window. -/
def receivedState (s : State) : State :=
  advance (finishRx (frameOk (windowRegsOf s s.params.rxWindow).sr (windowRegsOf s s.params.rxWindow).cnt)
    (windowRegsOf s s.params.rxWindow).sr (receivingState s (s.params.rxWindow - 1)))

theorem sample_receivingState (s : State) (n : Nat) : sample (receivingState s n) = levelAt s n := by
  rw [sample, List.headD_eq_head?_getD]
  simp [receivingState, levelAt]

theorem sample_eq_levelAt_zero (s : State) : sample s = levelAt s 0 := by
  rw [sample, List.headD_eq_head?_getD, List.head?_eq_getElem?]
  rfl

theorem receivingState_zero (s : State) : receivingState s 0 = setHost [] (startRx s) := rfl

/-- R40: the acceptance tick of a RECEIVE that finds the line low is tick 0 of its window. -/
theorem step_of_receive {s : State} (ha : accepting s = true) (hh : s.host = [offerOf .receive])
    (hlow : sample s = .low) : step s = step (receivingState s 0) := by
  have hu : s.unspec = false := ((accepting_iff s).1 ha).1
  rw [step_of_accepted ha decode_encode_receive hh, acceptedState_receive_of_low hlow,
    step_of_silent_host (s := receivingState s 0) rfl hu, receivingState_zero, engine_setHost]

section Receive

variable {s : State} {n : Nat}

/-- R143 to R146: the sample of a tick of the window. -/
theorem rxSample_receivingState (hw : s.params.wellFormed = true) (hn : n < s.params.rxWindow) :
    rxSample (receivingState s n).params (sample (receivingState s n)) (receivingState s n).now (receivingState s n).rx =
      (receivingState s (n + 1)).rx := by
  obtain ⟨-, -, hc⟩ := (Params.wellFormed_iff s.params).1 hw
  obtain ⟨-, hlast⟩ := windowRegs_timestamps (tm := s.params.timing) (mode := s.params.deadzone) (lv := levelAt s) n
  rw [sample_receivingState]
  exact rxSample_stampRegs (clock := fun i => (nextNow s.params)^[i] s.now) _ (elapsed_iterate hc s.now hlast hn)

/-- R143, R226: the last tick of the window is its `W`-th one. -/
theorem rxLast_receivingState_iff (hw : s.params.wellFormed = true) (hn : n < s.params.rxWindow) :
    rxLast (receivingState s n) = true ↔ n + 1 = s.params.rxWindow := by
  obtain ⟨-, -, hc⟩ := (Params.wellFormed_iff s.params).1 hw
  obtain ⟨hstart, -⟩ := windowRegs_timestamps (tm := s.params.timing) (mode := s.params.deadzone) (lv := levelAt s) n
  have helapsed : elapsed s.params ((nextNow s.params)^[n] s.now)
      ((nextNow s.params)^[(windowRegsOf s n).tstart] s.now) = n := by
    rw [windowRegsOf, hstart]
    exact elapsed_iterate hc s.now (Nat.zero_le n) hn
  rw [rxLast_iff]
  show elapsed s.params _ ((nextNow s.params)^[(windowRegsOf s n).tstart] s.now) + 1 = _ ↔ _
  exact iff_of_eq (congrArg (· + 1 = s.params.rxWindow) helapsed)

/-- R143: one tick of the window. -/
theorem step_receivingState (hw : s.params.wellFormed = true) (hu : s.unspec = false) (hn : n < s.params.rxWindow) :
    step (receivingState s n) =
      .next (if n + 1 = s.params.rxWindow then receivedState s else receivingState s (n + 1)) := by
  have hend := rxLast_receivingState_iff hw hn
  have hsample := rxSample_receivingState hw hn
  rw [step_of_silent_host (s := receivingState s n) rfl hu, engine_rx (s := receivingState s n) rfl]
  rcases rxTick_cases (receivingState s n) with ⟨hmid, heq⟩ | ⟨hdone, heq⟩ <;> rw [heq, hsample]
  · have hnow := Function.iterate_succ_apply' (nextNow s.params) n s.now
    have hline : s.line.drop (n + 1) = (s.line.drop n).tail := by simp
    rw [if_neg (mt hend.2 (ne_true_of_eq_false hmid)), receivingState, receivingState, hnow, hline]
    rfl
  · rw [if_pos (hend.1 hdone), receivedState, ← hend.1 hdone, Nat.add_sub_cancel]
    rfl

/-- R226: the block is in the window until its last tick. -/
theorem run_receivingState (hw : s.params.wellFormed = true) (hu : s.unspec = false) (hn : n < s.params.rxWindow) :
    Sys2Proof.core.run n (receivingState s 0) = .next (receivingState s n) := by
  induction n with
  | zero => rfl
  | succ n ih =>
    have hstep := step_receivingState hw hu (Nat.lt_of_succ_lt hn)
    rw [if_neg (Nat.ne_of_lt hn)] at hstep
    exact (run_add (ih (Nat.lt_of_succ_lt hn)) 1).trans (run_succ hstep 0)

/-- A run of at least one tick is decided by its first step. -/
theorem run_succ_congr {s' : State} (h : step s = step s') (k : Nat) :
    Sys2Proof.core.run (k + 1) s = Sys2Proof.core.run (k + 1) s' := by
  obtain ⟨t, hstep⟩ := everyTickHasANextState s'
  rw [run_succ hstep, run_succ (h.trans hstep)]

variable (ha : accepting s = true) (hh : s.host = [offerOf .receive]) (hw : s.params.wellFormed = true)

include ha hh hw

/-- R226: an accepted RECEIVE, inside its window. -/
theorem run_receive (hlow : sample s = .low) (h0 : 0 < n) (hn : n < s.params.rxWindow) :
    Sys2Proof.core.run n s = .next (receivingState s n) := by
  have hu : s.unspec = false := ((accepting_iff s).1 ha).1
  obtain ⟨n, rfl⟩ := Nat.exists_eq_add_one.2 h0
  exact (run_succ_congr (step_of_receive ha hh hlow) n).trans (run_receivingState hw hu hn)

/-- R226: an accepted RECEIVE at the end of its window. -/
theorem run_receive_window (hlow : sample s = .low) :
    Sys2Proof.core.run s.params.rxWindow s = .next (receivedState s) := by
  have hu : s.unspec = false := ((accepting_iff s).1 ha).1
  obtain ⟨-, hwin, -⟩ := (Params.wellFormed_iff s.params).1 hw
  obtain ⟨n, hn⟩ := Nat.exists_eq_add_one.2 hwin
  have hlast := step_receivingState hw hu (n := n) (by omega)
  rw [if_pos hn.symm] at hlast
  rw [hn]
  calc Sys2Proof.core.run (n + 1) s
      = Sys2Proof.core.run (n + 1) (receivingState s 0) := run_succ_congr (step_of_receive ha hh hlow) n
    _ = Sys2Proof.core.run 1 (receivingState s n) := run_add (run_receivingState hw hu (by omega)) 1
    _ = .next (receivedState s) := run_succ hlast 0

end Receive

/-- Settles O44: the states of the window, and the one after it. -/
theorem receiveLastsItsWindow : Obligations.ReceiveLastsItsWindow := by
  intro s ha hh hlow hw
  refine ⟨fun n h0 hn => ⟨_, run_receive ha hh hw hlow h0 hn, rfl, rfl, rfl, rfl, rfl⟩, _,
    run_receive_window ha hh hw hlow, rfl, rfl, fun hfail => ?_, rfl, rfl, rfl, rfl⟩
  rw [receivedState, advance_resultOk, finishRx_resultOk] at hfail
  rw [receivedState, advance_rxData, finishRx_rxData, hfail]
  rfl

/-! The results of a RECEIVE -/

/-- No run stops. -/
theorem run_answers_next (n : Nat) (s : State) : ∃ t, Sys2Proof.core.run n s = .next t := by
  induction n generalizing s with
  | zero => exact ⟨s, rfl⟩
  | succ n ih =>
    obtain ⟨s', hstep⟩ := everyTickHasANextState s
    obtain ⟨t, hrun⟩ := ih s'
    exact ⟨t, (run_succ hstep n).trans hrun⟩

/-- R213: an idle block with a silent host keeps its outputs. -/
theorem run_idle_keeps {s t : State} (hh : s.host = []) (hu : s.unspec = false) (hidle : s.curOp = .idle) (n : Nat)
    (h : Sys2Proof.core.run n s = .next t) :
    t.resultOk = s.resultOk ∧ t.rxData = s.rxData ∧ t.busy = s.busy ∧ t.fault = s.fault := by
  induction n generalizing s with
  | zero =>
    obtain rfl := Host.Outcome.next.inj h
    exact ⟨rfl, rfl, rfl, rfl⟩
  | succ n ih =>
    have hstep := step_of_silent_host hh hu
    rw [engine_idle hidle] at hstep
    exact ih (s := advance s) hh hu hidle ((run_succ hstep n).symm.trans h)

/-- R141, R147: the results at the end of the window's time, of a RECEIVE that finds the line high and of one that runs. -/
theorem receive_results {s t : State} (ha : accepting s = true) (hh : s.host = [offerOf .receive])
    (hw : s.params.wellFormed = true) (h : Sys2Proof.core.run s.params.rxWindow s = .next t) :
    (levelAt s 0 = .high → t.resultOk = false ∧ t.rxData = 0#_) ∧
    (levelAt s 0 = .low →
      t.resultOk = frameOk (windowRegsOf s s.params.rxWindow).sr (windowRegsOf s s.params.rxWindow).cnt ∧
      t.rxData = (if t.resultOk then (windowRegsOf s s.params.rxWindow).sr >>> 4 else 0#_) ∧
      t.busy = false ∧ t.fault = s.fault) := by
  rw [← sample_eq_levelAt_zero]
  refine ⟨fun hhigh => ?_, fun hlow => ?_⟩
  · obtain ⟨-, hwin, -⟩ := (Params.wellFormed_iff s.params).1 hw
    obtain ⟨n, hn⟩ := Nat.exists_eq_add_one.2 hwin
    have hu : s.unspec = false := ((accepting_iff s).1 ha).1
    have hstep := step_of_accepted ha decode_encode_receive hh
    rw [acceptedState_receive_of_high hhigh, engine_idle (finishRx_curOp false 0#_ s)] at hstep
    rw [hn, run_succ hstep] at h
    obtain ⟨hok, hdata, -, -⟩ :=
      run_idle_keeps (s := advance (setHost [] (finishRx false 0#_ s))) rfl hu rfl n h
    exact ⟨hok, hdata⟩
  · obtain rfl := Host.Outcome.next.inj ((run_receive_window ha hh hw hlow).symm.trans h)
    exact ⟨rfl, rfl, rfl, rfl⟩

/-- R22: a window that shows the levels `lv` leaves the registers of those levels. -/
theorem windowRegsOf_eq {s : State} {lv : Nat → Level} {n : Nat} (h : ∀ i, i < n → levelAt s i = lv i) :
    windowRegsOf s n = windowRegs s.params.timing s.params.deadzone lv n :=
  windowRegs_congr h

/-- Settles O45: the results are a function of the timing, the mode and the levels of the window. -/
theorem receiveDependsOnlyOnItsWindow : Obligations.ReceiveDependsOnlyOnItsWindow := by
  intro s1 s2 t1 t2 ha1 ha2 hh1 hh2 hw1 hw2 htiming hwindow hmode hlen hline hrun1 hrun2
  obtain ⟨-, hwin, -⟩ := (Params.wellFormed_iff s1.params).1 hw1
  have hlevels : ∀ i, i < s1.params.rxWindow → levelAt s1 i = levelAt s2 i := fun i hi => by
    have hi1 := List.getElem?_take_of_lt (l := s1.line) hi
    rw [hline, List.getElem?_take_of_lt hi] at hi1
    rw [levelAt, levelAt, hi1, List.getElem?_eq_getElem (Nat.lt_of_lt_of_le hi hlen)]
    rfl
  have hregs : windowRegsOf s1 s1.params.rxWindow = windowRegsOf s2 s1.params.rxWindow := by
    rw [windowRegsOf_eq hlevels, htiming, hmode]
    rfl
  obtain ⟨hhigh1, hlow1⟩ := receive_results ha1 hh1 hw1 hrun1
  rw [hwindow] at hrun2
  obtain ⟨hhigh2, hlow2⟩ := receive_results ha2 hh2 hw2 hrun2
  rw [← hlevels 0 hwin] at hhigh2 hlow2
  rw [← hwindow, ← hregs] at hlow2
  cases hfirst : levelAt s1 0 with
  | high =>
    obtain ⟨hok1, hdata1⟩ := hhigh1 hfirst
    obtain ⟨hok2, hdata2⟩ := hhigh2 hfirst
    exact ⟨hok1.trans hok2.symm, hdata1.trans hdata2.symm⟩
  | low =>
    obtain ⟨hok1, hdata1, -, -⟩ := hlow1 hfirst
    obtain ⟨hok2, hdata2, -, -⟩ := hlow2 hfirst
    have hok : t1.resultOk = t2.resultOk := hok1.trans hok2.symm
    exact ⟨hok, by rw [hdata1, hdata2, hok]⟩

end Sys2Proof.Machine
end

section
/-! PROOFS. Two blocks joined by an inverter: what the receiver's window shows of the transmitter's frame, and why the default
window never receives one (R155, R157). -/

namespace Sys2Proof.Machine

/-- R157: the level of the receiver's `in_line`, `n` ticks after it started `d` ticks later than the frame of `m`. -/
def heardLevel (m : Message) (d n : Nat) : Level := (sentLevel Config.timing m (d + n)).flip

/-- R157: what the receiver's window shows, tick by tick. -/
theorem levelAt_of_heard {a b : State} {m : Message} {d w : Nat} (ha : accepting a = true)
    (hh : a.host = [offerOf (.send m)]) (htiming : a.params.timing = Config.timing)
    (hline : b.line = ((lineTrace (d + w) a).drop d).map Level.flip) {i : Nat} (hi : i < w) :
    levelAt b i = heardLevel m d i := by
  have htrace : lineTrace (d + w) a = (List.range (d + w)).map (sentLevel Config.timing m) := by
    rw [← htiming]
    exact lineTrace_send ha hh (htiming ▸ timing_wellFormed) (htiming ▸ by decide) (htiming ▸ by decide) (d + w)
  have hlt : d + i < d + w := Nat.add_lt_add_left hi d
  rw [levelAt, hline, htrace]
  simp [hlt, heardLevel]

/-! The levels of the source's timing -/

/-- R6, R10: the two high times of the source. -/
theorem highTime_source (b : Bool) : highTime Config.timing b = if b then 1800 else 600 := by
  cases b <;> rfl

/-- R103: the level in bit `k` of the frame. -/
theorem sentLevel_in_bit {m : Message} {k o : Nat} (hk : k < (frameBits m).length) (ho : o < 3000) :
    sentLevel Config.timing m (3000 * k + o) =
      if o < highTime Config.timing ((frameBits m).getD k false) then .high else .low := by
  have hdiv : (3000 * k + o) / 3000 = k := by omega
  have hmod : (3000 * k + o) % 3000 = o := by omega
  have hperiod : Config.timing.bitPeriod = 3000 := rfl
  rw [sentLevel, frameLevel, sendBit_eq, hperiod, hdiv, hmod, if_pos (by omega)]

/-- R127: the line is low after the frame. -/
theorem sentLevel_after_frame {m : Message} {n : Nat} (hn : 3000 * (frameBits m).length ≤ n) :
    sentLevel Config.timing m n = .low :=
  if_neg (Nat.not_lt_of_le hn)

/-- R103: inside a bit period the line does not rise again. -/
theorem sentLevel_stays_low {m : Message} {n : Nat} (hlow : sentLevel Config.timing m n = .low)
    (hmid : (n + 1) % 3000 ≠ 0) : sentLevel Config.timing m (n + 1) = .low := by
  rcases Nat.lt_or_ge n (3000 * (frameBits m).length) with hn | hn
  · have hk : n / 3000 < (frameBits m).length := by omega
    have hnow := sentLevel_in_bit (m := m) (o := n % 3000) hk (by omega)
    have hnext := sentLevel_in_bit (m := m) (o := n % 3000 + 1) hk (by omega)
    rw [Nat.div_add_mod, hlow] at hnow
    rw [← Nat.add_assoc, Nat.div_add_mod] at hnext
    rw [hnext, if_neg]
    intro hhigh
    rw [if_pos (by omega)] at hnow
    cases hnow
  · exact sentLevel_after_frame (by omega)

theorem heardLevel_stays_high {m : Message} {d n : Nat} (hhigh : heardLevel m d n = .high)
    (hmid : (d + (n + 1)) % 3000 ≠ 0) : heardLevel m d (n + 1) = .high := by
  have hlow : sentLevel Config.timing m (d + n) = .low := by
    rw [heardLevel] at hhigh
    rw [← Level.flip_flip (sentLevel Config.timing m (d + n)), hhigh, Level.flip_high]
  rw [heardLevel, ← Nat.add_assoc, sentLevel_stays_low hlow hmid, Level.flip_low]

/-! The default window -/

/-- R155: at most one bit is classified in each bit period that the window touches: a bit is classified at a high level, and
`in_line` stays high from there to the end of the period. -/
theorem windowRegs_cnt_le (tm : Timing) (mode : DeadzoneMode) {lv : Nat → Level} {d : Nat}
    (hlv : ∀ n, lv n = .high → (d + (n + 1)) % 3000 ≠ 0 → lv (n + 1) = .high) (n : Nat) :
    (windowRegs tm mode lv n).cnt ≤ (d + n) / 3000 - d / 3000 ∨
      ((windowRegs tm mode lv n).cnt ≤ (d + n) / 3000 - d / 3000 + 1 ∧ (windowRegs tm mode lv n).po = true ∧
        lv n = .high) := by
  induction n with
  | zero => exact .inl (Nat.zero_le _)
  | succ n ih =>
    have hlater : lv n = .high → (d + (n + 1)) / 3000 = (d + n) / 3000 + 1 ∨ lv (n + 1) = .high := fun hhigh => by
      by_cases hend : (d + (n + 1)) % 3000 = 0
      · exact .inl (by omega)
      · exact .inr (hlv n hhigh hend)
    rw [windowRegs_succ]
    generalize windowRegs tm mode lv n = r at ih
    rcases ih with hle | ⟨hle, hpo, hhigh⟩
    · rcases rxSample_cases (windowParams tm mode) (lv n) n r with ⟨hhigh, -, b, -, heq⟩ | ⟨-, -, -, heq⟩ |
        ⟨-, -, heq⟩ | ⟨-, -, heq⟩ | ⟨-, -, heq⟩ <;> rw [heq]
      · have hcnt := rxPush_cnt b r
        rcases hlater hhigh with hnext | hnext
        · exact .inl (by omega)
        · exact .inr ⟨by omega, rfl, hnext⟩
      · split <;> exact .inl (show r.cnt ≤ _ by omega)
      all_goals exact .inl (show r.cnt ≤ _ by omega)
    · rw [hhigh, rxSample_high_of_po hpo]
      rcases hlater hhigh with hnext | hnext
      · exact .inl (by omega)
      · exact .inr ⟨by omega, hpo, hnext⟩

/-- R147: no frame has one, two or three bits. -/
theorem frameOk_of_cnt_le_three (sr : Message) {cnt : Nat} (h : cnt ≤ 3) : frameOk sr cnt = false := by
  refine eq_false_of_ne_true fun hok => ?_
  obtain ⟨hne, hmod, -⟩ := (frameOk_iff sr cnt).1 hok
  omega

/-- Settles O49: 4000 ticks touch at most three bit periods, and a frame has a multiple of four bits. -/
theorem defaultWindowNeverReceivesAFrame : Obligations.DefaultWindowNeverReceivesAFrame := by
  intro a b m d haa hah hba hbh hbw hat _ hwin hline
  have hlevels : ∀ i, i < 4000 → levelAt b i = heardLevel m d i := fun i hi => levelAt_of_heard haa hah hat hline hi
  have hcnt : (windowRegsOf b 4000).cnt ≤ 3 := by
    rw [windowRegsOf_eq hlevels]
    have hle := windowRegs_cnt_le b.params.timing b.params.deadzone
      (fun n hhigh hmid => heardLevel_stays_high (m := m) (d := d) hhigh hmid) 4000
    omega
  obtain ⟨t, hrun⟩ := run_answers_next b.params.rxWindow b
  obtain ⟨hhigh, hlow⟩ := receive_results hba hbh hbw hrun
  rw [hwin] at hrun
  cases hfirst : levelAt b 0 with
  | high => exact ⟨t, hrun, hhigh hfirst⟩
  | low =>
    obtain ⟨hok, hdata, -, -⟩ := hlow hfirst
    rw [hwin, frameOk_of_cnt_le_three _ hcnt] at hok
    rw [hok] at hdata
    exact ⟨t, hrun, hok, hdata⟩

end Sys2Proof.Machine
end

section
/-! PROOFS. The round trip: a receiver whose window covers the frame receives its bits one by one, and accepts the message
exactly where no nibble of it falls off the top (R148, R153, R156, R157, R228). -/

namespace Sys2Proof.Machine

/-! The received bits -/

/-- The receive registers hold the bits `bs` (R144). -/
def HoldsBits (bs : List Bool) (r : RxRegs) : Prop :=
  r.sr = (receiveBits bs RxRegs.reset).sr ∧ r.cnt = bs.length

theorem holdsBits_nil : HoldsBits [] RxRegs.reset := ⟨rfl, rfl⟩

theorem holdsBits_push {bs : List Bool} {r : RxRegs} (h : HoldsBits bs r) (b : Bool) :
    HoldsBits (bs ++ [b]) (rxPush b r) := by
  obtain ⟨hsr, hcnt⟩ := h
  refine ⟨?_, by rw [rxPush_cnt, hcnt, List.length_append, List.length_singleton]⟩
  rw [receiveBits_append, receiveBits_cons, receiveBits_nil, rxPush_sr, rxPush_sr, hsr]

/-- The bits of a frame up to and with bit `k`. -/
theorem take_succ_getD {bs : List Bool} {k : Nat} (hk : k < bs.length) :
    bs.take (k + 1) = bs.take k ++ [bs.getD k false] := by
  rw [List.take_succ_eq_append_getElem hk, List.getD_eq_getElem?_getD, List.getElem?_eq_getElem hk, Option.getD_some]

/-! Where each bit is measured from and classified -/

/-- R156: B's start `d` is within the tolerance for the first bit `b`. -/
def WithinTolerance (mode : DeadzoneMode) (b : Bool) (d : Nat) : Prop :=
  (b = false ∧ d < 600 ∧ (mode = .edge → d = 0)) ∨ (b = true ∧ d < 400)

/-- R142, R145: the tick of the frame from which bit `k` is measured: the start of its pulse, or B's start. -/
def measuredFrom (d k : Nat) : Nat := if k = 0 then d else 3000 * k

/-- R106, R143: the tick of the frame in which bit `k`, with the value `b`, is classified: the end of the pulse's high phase, or for
the first bit the end of the dead zone after B's start. -/
def classifiedAt (d k : Nat) (b : Bool) : Nat :=
  if k = 0 then max (highTime Config.timing b) (d + 600) else 3000 * k + highTime Config.timing b

section Bits

variable {mode : DeadzoneMode} {d k : Nat} {b : Bool}

/-- The first bit: what the tolerance leaves of `classifiedAt`. -/
theorem classifiedAt_zero (htol : WithinTolerance mode b d) :
    (b = false ∧ classifiedAt d 0 b = d + 600 ∧ d < 600 ∧ (mode = .edge → d = 0)) ∨
      (b = true ∧ classifiedAt d 0 b = 1800 ∧ d < 400) := by
  have hmax : classifiedAt d 0 b = max (if b then 1800 else 600) (d + 600) := by
    rw [classifiedAt, if_pos rfl, highTime_source]
  rcases htol with ⟨rfl, hd, hedge⟩ | ⟨rfl, hd⟩
  · exact .inl ⟨rfl, hmax.trans (Nat.max_eq_right (Nat.le_add_left 600 d)), hd, hedge⟩
  · exact .inr ⟨rfl, hmax.trans (Nat.max_eq_left (show d + 600 ≤ 1800 by omega)), hd⟩

theorem classifiedAt_succ (d k : Nat) (b : Bool) :
    classifiedAt d (k + 1) b = 3000 * (k + 1) + highTime Config.timing b := rfl

theorem highTime_source_bounds (b : Bool) :
    600 ≤ highTime Config.timing b ∧ highTime Config.timing b ≤ 1800 := by
  rw [highTime_source]
  split <;> decide

/-- R106, R156: at that tick the measured time gives the bit. -/
theorem classify_at_classifiedAt (htol : k = 0 → WithinTolerance mode b d) :
    classify Config.timing (classifiedAt d k b - measuredFrom d k) = some b := by
  have hbands := classify_bands (tm := Config.timing) (by decide) (classifiedAt d k b - measuredFrom d k)
  obtain ⟨-, hzero, hone⟩ := hbands
  cases k with
  | zero =>
    rcases classifiedAt_zero (htol rfl) with ⟨rfl, heq, -, -⟩ | ⟨rfl, heq, hd⟩
    · have he : classifiedAt d 0 false - measuredFrom d 0 = 600 := by rw [heq]; exact Nat.add_sub_cancel_left d 600
      exact hzero.2 ⟨show 600 ≤ _ by omega, show _ ≤ 1400 by omega⟩
    · have he : classifiedAt d 0 true - measuredFrom d 0 = 1800 - d := by rw [heq]; rfl
      exact hone.2 (show 1400 < _ by omega)
  | succ k =>
    have he : classifiedAt d (k + 1) b - measuredFrom d (k + 1) = highTime Config.timing b :=
      Nat.add_sub_cancel_left _ _
    rw [he]
    cases b <;> rfl

/-- A bit is classified in the low phase of its pulse. -/
theorem classifiedAt_bounds (htol : k = 0 → WithinTolerance mode b d) :
    3000 * k + highTime Config.timing b ≤ classifiedAt d k b ∧ classifiedAt d k b < 3000 * (k + 1) := by
  obtain ⟨-, hle⟩ := highTime_source_bounds b
  cases k with
  | zero =>
    rcases classifiedAt_zero (htol rfl) with ⟨rfl, heq, hd, -⟩ | ⟨rfl, heq, -⟩ <;> rw [heq, highTime_source]
    · exact ⟨show 600 ≤ d + 600 by omega, by omega⟩
    · exact ⟨by decide, by decide⟩
  | succ k =>
    rw [classifiedAt_succ]
    omega

/-- R107, R146: before that tick the low phase of a pulse is in the dead zone, and only LEVEL mode lets the bit come later. -/
theorem dead_before_classifiedAt {n : Nat} (htol : k = 0 → WithinTolerance mode b d)
    (hlow : 3000 * k + highTime Config.timing b ≤ n) (hn : n < classifiedAt d k b) :
    mode ≠ .edge ∧ n - measuredFrom d k < 600 := by
  cases k with
  | zero =>
    have hfrom : measuredFrom d 0 = d := rfl
    rw [Nat.mul_zero, Nat.zero_add] at hlow
    rcases classifiedAt_zero (htol rfl) with ⟨rfl, heq, -, hedge⟩ | ⟨rfl, heq, -⟩
    · have hpulse : 600 ≤ n := hlow
      exact ⟨fun hmode => by have := hedge hmode; omega, by omega⟩
    · have hpulse : 1800 ≤ n := hlow
      omega
  | succ k =>
    rw [classifiedAt_succ] at hn
    omega

end Bits

/-! The receiver in the frame -/

/-- R103: what the receiver hears in bit `k` of the frame. -/
theorem heardLevel_in_bit {m : Message} {d k n : Nat} (hk : k < (frameBits m).length) (hge : 3000 * k ≤ d + n)
    (hlt : d + n < 3000 * (k + 1)) :
    heardLevel m d n =
      if d + n < 3000 * k + highTime Config.timing ((frameBits m).getD k false) then .low else .high := by
  have hlevel := sentLevel_in_bit (m := m) (o := d + n - 3000 * k) hk (by omega)
  rw [Nat.add_sub_cancel' hge] at hlevel
  rw [heardLevel, hlevel]
  split
  · rw [if_pos (by omega), Level.flip_high]
  · rw [if_neg (by omega), Level.flip_low]

/-- R127: the receiver hears an idle transmitter as a high level. -/
theorem heardLevel_after_frame {m : Message} {d n : Nat} (hn : 3000 * (frameBits m).length ≤ d + n) :
    heardLevel m d n = .high := by
  rw [heardLevel, sentLevel_after_frame hn, Level.flip_low]

/-- R143: a receiver before tick `n` of its window, with the bits before bit `k`, that has not classified bit `k`. -/
def Awaits (bs : List Bool) (d k n : Nat) (r : RxRegs) : Prop :=
  r.po = false ∧ HoldsBits (bs.take k) r ∧ d + r.tlast = measuredFrom d k ∧ 3000 * k ≤ d + n ∧
    d + n ≤ classifiedAt d k (bs.getD k false)

/-- R143: a receiver before tick `n` of its window that has classified bit `k`, in the rest of its pulse. -/
def HasReceived (bs : List Bool) (d k n : Nat) (r : RxRegs) : Prop :=
  r.po = true ∧ HoldsBits (bs.take (k + 1)) r ∧ classifiedAt d k (bs.getD k false) < d + n ∧
    (d + n ≤ 3000 * (k + 1) ∨ k + 1 = bs.length)

/-- R143 to R146: where a receiver is in the frame, and that EDGE mode has nothing to suppress. -/
def FollowsFrame (mode : DeadzoneMode) (bs : List Bool) (d n : Nat) (r : RxRegs) : Prop :=
  (mode = .edge → r.seen = false) ∧ ∃ k, k < bs.length ∧ (Awaits bs d k n r ∨ HasReceived bs d k n r)

section Frame

variable {mode : DeadzoneMode} {m : Message} {d k n : Nat} {r : RxRegs}

/-- R143, R144: a tick in which the receiver awaits bit `k`. -/
theorem awaits_step (htol : k = 0 → WithinTolerance mode ((frameBits m).getD k false) d) (hk : k < (frameBits m).length)
    (hseen : mode = .edge → r.seen = false) (h : Awaits (frameBits m) d k n r) :
    FollowsFrame mode (frameBits m) d (n + 1)
      (rxSample (windowParams Config.timing mode) (heardLevel m d n) n r) := by
  obtain ⟨hpo, hbits, hfrom, hge, hle⟩ := h
  obtain ⟨hphase, hperiod⟩ := classifiedAt_bounds htol
  have helapsed : elapsed (windowParams Config.timing mode) n r.tlast = d + n - measuredFrom d k := by
    rw [elapsed_unbounded rfl, ← hfrom, Nat.add_sub_add_left]
  have hsup : ¬((windowParams Config.timing mode).deadzone = .edge ∧ r.seen = true) := fun ⟨hmode, hs⟩ =>
    absurd ((hseen hmode).symm.trans hs) (by decide)
  rw [heardLevel_in_bit hk hge (by omega)]
  split
  next hpulse =>
    rw [rxSample_low_of_not_po hpo]
    exact ⟨fun _ => rfl, k, hk, .inl ⟨hpo, hbits, hfrom, by omega, by omega⟩⟩
  next hrest =>
    rcases Nat.lt_or_eq_of_le hle with hearly | hnow
    · obtain ⟨hmode, hdead⟩ := dead_before_classifiedAt htol (Nat.le_of_not_lt hrest) hearly
      rw [rxSample_high_of_dead hpo hsup (helapsed ▸ hdead),
        if_neg (show (windowParams Config.timing mode).deadzone ≠ .edge from hmode)]
      exact ⟨hseen, k, hk, .inl ⟨hpo, hbits, hfrom, by omega, hearly⟩⟩
    · have hbit : rxClassify (windowParams Config.timing mode) r.seen
          (elapsed (windowParams Config.timing mode) n r.tlast) = some ((frameBits m).getD k false) := by
        rw [rxClassify, if_neg hsup, helapsed, hnow]
        exact classify_at_classifiedAt htol
      rw [rxSample_high_of_some hpo hbit]
      refine ⟨hseen, k, hk, .inr ⟨rfl, ?_, by omega, .inl (by omega)⟩⟩
      rw [take_succ_getD hk]
      exact holdsBits_push hbits _

/-- R145: a tick after bit `k`, in the rest of its pulse or at the start of the next one. -/
theorem hasReceived_step (htol : k = 0 → WithinTolerance mode ((frameBits m).getD k false) d)
    (hk : k < (frameBits m).length) (hseen : mode = .edge → r.seen = false) (h : HasReceived (frameBits m) d k n r) :
    FollowsFrame mode (frameBits m) d (n + 1)
      (rxSample (windowParams Config.timing mode) (heardLevel m d n) n r) := by
  obtain ⟨hpo, hbits, hafter, hwhere⟩ := h
  obtain ⟨hphase, hperiod⟩ := classifiedAt_bounds htol
  by_cases hnext : d + n = 3000 * (k + 1) ∧ k + 1 < (frameBits m).length
  · obtain ⟨hstart, hk1⟩ := hnext
    obtain ⟨hpulse, -⟩ := highTime_source_bounds ((frameBits m).getD (k + 1) false)
    rw [heardLevel_in_bit hk1 (by omega) (by omega), if_pos (by omega), rxSample_low_of_po hpo]
    refine ⟨hseen, k + 1, hk1, .inl ⟨rfl, hbits, hstart, by omega, ?_⟩⟩
    rw [classifiedAt_succ]
    omega
  · have hhigh : heardLevel m d n = .high := by
      rcases Nat.lt_or_ge (d + n) (3000 * (k + 1)) with hin | hout
      · rw [heardLevel_in_bit hk (by omega) hin, if_neg (by omega)]
      · exact heardLevel_after_frame (by omega)
    rw [hhigh, rxSample_high_of_po hpo]
    exact ⟨hseen, k, hk, .inr ⟨hpo, hbits, by omega, by omega⟩⟩

/-- R143 to R146: the receiver follows the frame through its window. -/
theorem windowRegs_followsFrame (htol : WithinTolerance mode ((frameBits m).getD 0 false) d) (n : Nat) :
    FollowsFrame mode (frameBits m) d n (windowRegs Config.timing mode (heardLevel m d) n) := by
  induction n with
  | zero =>
    obtain ⟨hge, -⟩ := frameBits_length_bounds m
    refine ⟨fun _ => rfl, 0, by omega, .inl ⟨rfl, holdsBits_nil, rfl, by omega, ?_⟩⟩
    rcases classifiedAt_zero htol with ⟨-, heq, -, -⟩ | ⟨-, heq, hd⟩ <;> omega
  | succ n ih =>
    obtain ⟨hseen, k, hk, hat⟩ := ih
    have htol' : k = 0 → WithinTolerance mode ((frameBits m).getD k false) d := by
      rintro rfl
      exact htol
    rcases hat with hawaits | hreceived
    · exact awaits_step htol' hk hseen hawaits
    · exact hasReceived_step htol' hk hseen hreceived

/-- R157: a window that includes the classification of the last bit ends with the whole frame received. -/
theorem windowRegs_holds_frame (htol : WithinTolerance mode ((frameBits m).getD 0 false) d)
    (hcovers : 3000 * ((frameBits m).length - 1) +
      highTime Config.timing ((frameBits m).getD ((frameBits m).length - 1) false) < d + n) :
    HoldsBits (frameBits m) (windowRegs Config.timing mode (heardLevel m d) n) := by
  obtain ⟨hlen, -⟩ := frameBits_length_bounds m
  obtain ⟨-, k, hk, hat⟩ := windowRegs_followsFrame htol n
  have htol' : k = 0 → WithinTolerance mode ((frameBits m).getD k false) d := by
    rintro rfl
    exact htol
  obtain ⟨-, hperiod⟩ := classifiedAt_bounds htol'
  have hlast : ¬k + 1 < (frameBits m).length → k = (frameBits m).length - 1 := by omega
  rcases hat with ⟨-, -, -, -, hle⟩ | ⟨-, hbits, -, hwhere⟩
  · exfalso
    by_cases hmore : k + 1 < (frameBits m).length
    · omega
    · obtain rfl := hlast hmore
      obtain ⟨k, hk'⟩ := Nat.exists_eq_add_one.2 (show 0 < (frameBits m).length - 1 by omega)
      rw [hk', classifiedAt_succ] at hle
      rw [hk'] at hcovers
      omega
  · have hall : k + 1 = (frameBits m).length := by omega
    rwa [hall, List.take_length] at hbits

end Frame

/-! The verdict on the frame -/

/-- R147, R157: what a receiver that holds the whole frame of `m` decides. -/
theorem frameOk_of_holds_frame {m : Message} {r : RxRegs} (h : HoldsBits (frameBits m) r) :
    ∃ p : Nibble, (frameNibbles m).getLast? = some p ∧ r.sr = (m <<< 4) ||| p.setWidth 64 ∧
      frameOk r.sr r.cnt = checkParity ((m <<< 4) ||| p.setWidth 64) := by
  obtain ⟨hsr, hcnt⟩ := h
  obtain ⟨p, hlast, hval⟩ := receiveBits_frameBits_sr m
  obtain ⟨hge, -⟩ := frameBits_length_bounds m
  have hnibbles := frameBits_length m
  refine ⟨p, hlast, hsr.trans hval, ?_⟩
  rw [frameOk, hsr, hval, decide_eq_true (by omega), decide_eq_true (by omega)]
  rfl

/-- R8: the messages that fit 60 bits are those whose nibble 15 is 0. -/
theorem nib_fifteen_eq_zero_iff (m : Message) : nib m 15 = 0#4 ↔ m.toNat < 2 ^ 60 := by
  have hlt : m.toNat < 2 ^ 64 := m.isLt
  have hnib : (nib m 15).toNat = m.toNat / 2 ^ 60 := by
    rw [nib, BitVec.toNat_setWidth, BitVec.toNat_ushiftRight, Nat.shiftRight_eq_div_pow]
    omega
  rw [← BitVec.toNat_inj, hnib]
  show m.toNat / 2 ^ 60 = 0 ↔ _
  omega

/-- R147, R153: dropping the parity nibble gives back the message that fits 60 bits. -/
theorem ushiftRight_shiftLeft_or {m : Message} (p : Nibble) (htop : nib m 15 = 0#4) :
    ((m <<< 4) ||| p.setWidth 64) >>> 4 = m := by
  apply BitVec.eq_of_getLsbD_eq
  intro j (hj : j < 64)
  rw [BitVec.getLsbD_ushiftRight]
  rcases Nat.lt_or_ge j 60 with hlt | hge
  · rw [getLsbD_shiftLeft_or_setWidth m p (by omega), if_neg (by omega), Nat.add_sub_cancel_left]
  · have hbit := getLsbD_nib m 15 (j - 60)
    rw [htop, show 4 * 15 + (j - 60) = j by omega, decide_eq_true (show j - 60 < 4 by omega), Bool.true_and] at hbit
    rw [BitVec.getLsbD_of_ge _ _ (show 64 ≤ 4 + j by omega), ← hbit, BitVec.getLsbD_zero]

/-- The XOR starts from any value. -/
theorem xorBelow_eq_xor (m : Message) (n : Nat) (acc : Nibble) : xorBelow m n acc = xorBelow m n 0#4 ^^^ acc := by
  induction n generalizing acc with
  | zero => simp
  | succ n ih =>
    rw [xorBelow_succ, xorBelow_succ, ih, ih (0#4 ^^^ nib m n), BitVec.zero_xor, BitVec.xor_assoc,
      BitVec.xor_comm acc]

/-- R148, R150: the receiver's XOR runs over the nibbles that have not fallen off the top. -/
theorem parityOf_shiftLeft_or_eq (m : Message) (p : Nibble) :
    parityOf ((m <<< 4) ||| p.setWidth 64) = xorBelow m 15 0#4 + 1#4 := by
  rw [parityOf_eq_foldr, List.range_succ, List.foldr_append, List.foldr_cons, List.foldr_nil, nib_sixteen, xorBelow]
  congr 1
  refine List.foldr_ext _ _ _ fun i hi a => ?_
  rw [nib_succ_shiftLeft_or m p (List.mem_range.1 hi)]

/-- R228: where nibble 15 falls off the top, the parity nibble of the frame counts it and the receiver does not. -/
theorem checkParity_of_top_nibble {m : Message} {p : Nibble} (htop : nib m 15 ≠ 0#4)
    (hlast : (frameNibbles m).getLast? = some p) : checkParity ((m <<< 4) ||| p.setWidth 64) = false := by
  refine eq_false_of_ne_true fun hok => htop ?_
  rw [checkParity_iff, parityOf_shiftLeft_or_eq, nib_zero_shiftLeft_or] at hok
  rw [frameNibbles_getLast?, xorBelow_seventeen, xorBelow_succ, BitVec.zero_xor, xorBelow_eq_xor, ← hok] at hlast
  have hxor : xorBelow m 15 0#4 ^^^ nib m 15 = xorBelow m 15 0#4 ^^^ 0#4 := by
    rw [BitVec.xor_zero]
    exact add_right_cancel (Option.some.inj hlast)
  exact (BitVec.xor_right_inj (xorBelow m 15 0#4)).1 hxor

/-! The two ends of the wire -/

/-- R157: what the receiver of a frame has, holds and decides at the end of its window. -/
theorem receiver_of_frame {a b : State} {m : Message} {d : Nat} (haa : accepting a = true)
    (hah : a.host = [offerOf (.send m)]) (hba : accepting b = true) (hbh : b.host = [offerOf .receive])
    (hbw : b.params.wellFormed = true) (hat : a.params.timing = Config.timing) (hbt : b.params.timing = Config.timing)
    (hline : b.line = ((lineTrace (d + b.params.rxWindow) a).drop d).map Level.flip)
    (htol : ((frameBits m).headD false = false ∧ d < 600 ∧ (b.params.deadzone = .edge → d = 0)) ∨
      ((frameBits m).headD false = true ∧ d < 400))
    (hcovers : 3000 * ((frameBits m).length - 1) + highTime Config.timing ((frameBits m).getLastD false) <
      d + b.params.rxWindow) :
    ∃ (t : State) (p : Nibble), Sys2Proof.core.run b.params.rxWindow b = .next t ∧
      (frameNibbles m).getLast? = some p ∧ t.resultOk = checkParity ((m <<< 4) ||| p.setWidth 64) ∧
      t.rxData = (if t.resultOk then ((m <<< 4) ||| p.setWidth 64) >>> 4 else 0#_) ∧ t.busy = false ∧
      t.fault = b.fault := by
  have hhead : (frameBits m).headD false = (frameBits m).getD 0 false := by
    rw [List.headD_eq_head?_getD, List.head?_eq_getElem?, List.getD_eq_getElem?_getD]
  have hlastbit : (frameBits m).getLastD false = (frameBits m).getD ((frameBits m).length - 1) false := by
    rw [List.getLastD_eq_getLast?, List.getLast?_eq_getElem?, List.getD_eq_getElem?_getD]
  rw [hhead] at htol
  rw [hlastbit] at hcovers
  obtain ⟨hlen, -⟩ := frameBits_length_bounds m
  obtain ⟨-, hwin, -⟩ := (Params.wellFormed_iff b.params).1 hbw
  have hlevels : ∀ i, i < b.params.rxWindow → levelAt b i = heardLevel m d i := fun i hi =>
    levelAt_of_heard haa hah hat hline hi
  have hlow : levelAt b 0 = .low := by
    obtain ⟨hpulse, -⟩ := highTime_source_bounds ((frameBits m).getD 0 false)
    rw [hlevels 0 hwin, heardLevel_in_bit (k := 0) (by omega) (by omega) (by omega), if_pos (by omega)]
  have hbits : HoldsBits (frameBits m) (windowRegsOf b b.params.rxWindow) := by
    rw [windowRegsOf_eq hlevels, hbt]
    exact windowRegs_holds_frame htol hcovers
  obtain ⟨p, hlast, hsr, hverdict⟩ := frameOk_of_holds_frame hbits
  obtain ⟨t, hrun⟩ := run_answers_next b.params.rxWindow b
  obtain ⟨-, hresults⟩ := receive_results hba hbh hbw hrun
  obtain ⟨hok, hdata, hbusy, hfault⟩ := hresults hlow
  rw [hsr] at hdata
  exact ⟨t, p, hrun, hlast, hok.trans hverdict, hdata, hbusy, hfault⟩

/-- Settles O47: the receiver holds the frame of a message that fits, whose parity agrees. -/
theorem messageMakesTheRoundTrip : Obligations.MessageMakesTheRoundTrip := by
  intro a b m d haa hah hba hbh hbw hat hbt hline hfits htol hcovers
  obtain ⟨t, p, hrun, hlast, hok, hdata, hbusy, hfault⟩ :=
    receiver_of_frame haa hah hba hbh hbw hat hbt hline htol hcovers
  have htop : nib m 15 = 0#4 := (nib_fifteen_eq_zero_iff m).2 hfits
  rw [receiverAcceptsTransmittedParity m p htop hlast] at hok
  rw [hok, if_pos rfl, ushiftRight_shiftLeft_or p htop] at hdata
  exact ⟨t, hrun, hok, hdata, hbusy, hfault⟩

/-- Settles O48: the receiver holds the frame of a message that does not fit, whose parity counts the nibble that is lost. -/
theorem topNibbleMessagesAreRejected : Obligations.TopNibbleMessagesAreRejected := by
  intro a b m d haa hah hba hbh hbw hat hbt hline hlarge htol hcovers
  obtain ⟨t, p, hrun, hlast, hok, hdata, -, -⟩ :=
    receiver_of_frame haa hah hba hbh hbw hat hbt hline htol hcovers
  have htop : nib m 15 ≠ 0#4 := mt (nib_fifteen_eq_zero_iff m).1 (Nat.not_lt_of_le hlarge)
  rw [checkParity_of_top_nibble htop hlast] at hok
  rw [hok] at hdata
  exact ⟨t, hrun, hok, hdata⟩

end Sys2Proof.Machine
end
